-- ==== Sys2Proof/Word.lean ====
section
/-! DEFINITION. The plain values of the ReliableSerial packet unit: bytes, 16-bit words, byte strings and the
packet-type enumeration (00_scope.md R10, R11; 30_encoding.md R85). -/

namespace Sys2Proof

/-- `u8` of R10. -/
abbrev Byte := BitVec 8

/-- `u16` of R10: sequences, types, checksums and the CRC remainder. Sequence arithmetic wraps (R12). -/
abbrev Word := BitVec 16

/-- `zeros(k)` of R11. -/
abbrev zeros (k : Nat) : List Byte := List.replicate k 0

/-- The enumeration `PacketType` of R85. -/
inductive PacketType where
  | ack | nack | data
  deriving DecidableEq, Repr

end Sys2Proof
end

