-- ==== Sys2Proof/Config.lean ====
section
/-! DEFINITION. The parameters of an instance (00_scope.md R5 to R9; 10_state.md R20: configuration, fixed for an
instance, an argument of the operations and no field of the state). -/

namespace Sys2Proof

/-- The implementation parameters of 00_scope.md section 3. -/
structure Config where
  /-- Payload bytes of every packet (R5). -/
  D : Nat
  /-- Slots of the host's reassembly buffer, used only for the slot index (R6). -/
  B : Nat
  /-- Generator constant of the CRC (R7). -/
  POLY : Word
  /-- Initial remainder of the CRC (R8). -/
  CRC_INIT : Word
  deriving DecidableEq, Repr

/-- `D >= 1` and `B >= 1` (R5, R6). -/
abbrev Config.wf (c : Config) : Prop := 1 ≤ c.D ∧ 1 ≤ c.B

/-- `N = 4 + D + 2` (R9). -/
def Config.N (c : Config) : Nat := 4 + c.D + 2

/-- `B - 1`. R6 leaves `B` OPEN, so this constant has no body: nothing can prove a value of it, and `B >= 1` holds
by construction (log entry 1, DESIGN CHOICE, safe). -/
opaque Config.slotsLessOne : Nat

/-- The instance that `exec` and `step` are (`execOn` and `stepOn` take any): the spec's defaults for `D`, `POLY` and `CRC_INIT`
(R5, R7, R8; log entry 2), and any `B`. -/
def Config.here : Config :=
  { D := 8, B := Config.slotsLessOne + 1, POLY := 0x2110, CRC_INIT := 0x0000 }

end Sys2Proof
end

