-- ==== Sys2Proof/Machine/Operands.lean ====
section
/-! DEFINITION. Operand and field forms: the byte orders of 20_memory.md R57, the packet fields of 30_encoding.md R81 to
R84, and the wire values of the packet types (R87). -/

namespace Sys2Proof

/-- `v[7:0]`. -/
def loByte (v : Word) : Byte := v.extractLsb' 0 8

/-- `v[15:8]`. -/
def hiByte (v : Word) : Byte := v.extractLsb' 8 8

/-- `zext_16(lo) OR (zext_16(hi) << 8)` (R81, R82, R84). -/
def wordOf (hi lo : Byte) : Word := lo.setWidth 16 ||| (hi.setWidth 16 <<< 8)

/-- `s[i]`, the byte at offset `i` (R11); every use has `i` inside the packet. -/
def byteAt (f : List Byte) (i : Nat) : Byte := f.getD i 0

/-- A header integer on the wire: little-endian (R57). -/
def littleEndian (v : Word) : List Byte := [loByte v, hiByte v]

/-- The checksum trailer on the wire: big-endian (R57). -/
def bigEndian (v : Word) : List Byte := [hiByte v, loByte v]

/-- `type(f)`, R81. -/
def typeField (f : List Byte) : Word := wordOf (byteAt f 1) (byteAt f 0)

/-- `seq(f)`, R82. -/
def seqField (f : List Byte) : Word := wordOf (byteAt f 3) (byteAt f 2)

/-- `payload(f)`, R83. -/
def payloadField (c : Config) (f : List Byte) : List Byte := (f.drop 4).take c.D

/-- `csum(f)`, R84. -/
def csumField (c : Config) (f : List Byte) : Word := wordOf (byteAt f (4 + c.D)) (byteAt f (5 + c.D))

/-- `payload ++ zeros(D - len(payload))`: "padded with zeros if shorter than `D`" (R83, R130). -/
def padded (c : Config) (p : List Byte) : List Byte := p ++ zeros (c.D - p.length)

/-- The wire value of a packet type (R87). -/
def wireType : PacketType → Word
  | .ack => 0x0001
  | .nack => 0x0002
  | .data => 0x0003

/-- The number an ENCODE or TRANSMIT type operand carries on the command port (opcode_table.json: ACK=1, NACK=2,
DATA=3), read back; every other number is outside the type (R86). -/
def packetTypeOfNum : Nat → Option PacketType
  | 1 => some .ack
  | 2 => some .nack
  | 3 => some .data
  | _ => none

/-- The number of a packet type on the command port. -/
def numOfPacketType : PacketType → Nat
  | .ack => 1
  | .nack => 2
  | .data => 3

end Sys2Proof
end

