-- ==== Sys2Proof/Machine/Flags.lean ====
section
/-! DEFINITION. The CRC computation of 40_crc.md, and the one transient flag it decides: `valid` (41_framer.md R133).
The block's only stored flag is NACK_PENDING, which the meanings write (10_state.md R28). -/

namespace Sys2Proof

/-- The step of R111: the register shifts left one, the message bit enters bit 0 (`CRC[14:0] ++ b`), and `POLY` is XORed
when the bit shifted out of bit 15 was 1. -/
def crcBitStep (poly r : Word) (b : Bool) : Word :=
  if r.getLsbD 15 then r.shiftConcat b ^^^ poly else r.shiftConcat b

/-- The bits of a byte in the order the CRC consumes them: bit 7 first, bit 0 last (R58). -/
def bitsOf (v : Byte) : List Bool :=
  [v.getLsbD 7, v.getLsbD 6, v.getLsbD 5, v.getLsbD 4, v.getLsbD 3, v.getLsbD 2, v.getLsbD 1, v.getLsbD 0]

/-- The step of R111 for each bit of a bit string, the first bit first. -/
def crcBits (poly r : Word) (bs : List Bool) : Word := bs.foldl (crcBitStep poly) r

/-- The step of R112. -/
def crcByteStep (poly r : Word) (v : Byte) : Word := crcBits poly r (bitsOf v)

/-- `Crc(init, s)`, R114: no complement, no reflection, no final XOR. -/
def crcOf (poly init : Word) (s : List Byte) : Word := s.foldl (crcByteStep poly) init

/-- `T[h]`, R116. -/
def crcTable (poly : Word) (h : Byte) : Word := crcByteStep poly (wordOf h 0) 0

/-- The table-driven form of the byte step, R116. -/
def crcByteTable (poly r : Word) (v : Byte) : Word := wordOf (loByte r) v ^^^ crcTable poly (hiByte r)

/-- `Residue(f)`, R133: the CRC over all the bytes, trailer included. -/
def residue (c : Config) (f : List Byte) : Word := crcOf c.POLY c.CRC_INIT f

/-- `valid`, R133: the residue is zero. -/
def validFlag (c : Config) (f : List Byte) : Bool := residue c f == 0x0000

end Sys2Proof
end

