-- ==== Sys2Proof/Machine/Packet.lean ====
section
/-! DEFINITION. The pure functions of the framer and parser: `Trailer`, `Encode` and `Parse` (41_framer.md R130 to
R132). -/

namespace Sys2Proof

/-- `Trailer(body)`, R131: the CRC of the packet with its trailer zeroed, high byte first. -/
def trailer (c : Config) (body : List Byte) : List Byte :=
  bigEndian (crcOf c.POLY c.CRC_INIT (body ++ zeros 2))

/-- The header and zero-padded payload of R130, for any 16-bit type value. -/
def packetBody (c : Config) (ty sq : Word) (p : List Byte) : List Byte :=
  littleEndian ty ++ littleEndian sq ++ padded c p

/-- The layout of R130 with any 16-bit type value and its matching trailer (R139). -/
def frameOf (c : Config) (ty sq : Word) (p : List Byte) : List Byte :=
  packetBody c ty sq p ++ trailer c (packetBody c ty sq p)

/-- `Encode(t, s, p)`, R130. -/
def encodePacket (c : Config) (t : PacketType) (sq : Word) (p : List Byte) : List Byte :=
  frameOf c (wireType t) sq p

/-- `Parse(f)`, R132: type, sequence and payload, with no check of any field. -/
def parsePacket (c : Config) (f : List Byte) : Word × Word × List Byte :=
  (typeField f, seqField f, payloadField c f)

end Sys2Proof
end

