-- ==== Sys2Proof/Syntax/Command.lean ====
section
/-! DEFINITION. What the two decoders read: the command record of the command port (30_encoding.md R85) and the bytes
of a packet (R80), and why a decoder refuses one. -/

namespace Sys2Proof

/-- An operand as the command port carries it: a number or a byte sequence with its own length (R85, R91). The spec
fixes no serialised form; this one is the model's (log entry 5, DESIGN CHOICE). A number may lie outside the operand's
type, as R86 and 95_test_vectors.md V85 require of a serialised form. -/
inductive Operand where
  | num (n : Nat)
  | bytes (l : List Byte)
  deriving DecidableEq, Repr

/-- "A command is a record `(opcode : u8, operands)`" (R85). -/
structure Command where
  opcode : Byte
  operands : List Operand
  deriving DecidableEq, Repr

/-- The words of an instruction: a record of the command port, or a packet's bytes on RX. -/
inductive Encoded where
  | command (c : Command)
  | packet (f : List Byte)
  deriving DecidableEq, Repr

/-- Why a decoder refuses. -/
inductive Reject where
  /-- R90: an opcode that is no row of R85. -/
  | reservedOpcode (op : Byte)
  /-- R86: an operand outside its type, or a wrong number of operands. -/
  | illFormedOperand (op : Byte)
  /-- R80: not exactly `N` bytes. -/
  | wrongLength (n : Nat)
  /-- R133: a nonzero residue. -/
  | nonzeroResidue (r : Word)
  /-- R88: a type value other than 1, 2 and 3. -/
  | reservedType (ty : Word)
  deriving DecidableEq, Repr

end Sys2Proof
end

