-- ==== Sys2Proof/Machine/State.lean ====
section
/-! DEFINITION. The state of one RSPU instance and its interfaces as plain data (10_state.md R20; 20_memory.md R50 to
R56), the responses of the command port (60_exceptions.md R201), the reasons a step could stop, and the state after
reset (70_reset_and_hazards.md R230). -/

namespace Sys2Proof.Machine

/-- The response of one command: a result code with its fields (60_exceptions.md R201; 30_encoding.md R85;
42_receive.md R161). -/
inductive Response where
  /-- OK with no fields. -/
  | ok
  /-- OK of CRC_READ. -/
  | okCrc (crc : Word)
  /-- OK of ENCODE. -/
  | okFrame (frame : List Byte)
  /-- OK of DECODE. -/
  | okDecoded (type seq : Word) (payload : List Byte) (valid : Bool)
  /-- OK of READ_STATUS. -/
  | okStatus (expectedSeq lastAcked : Word) (nack : Option Word)
  | noPacket
  | ackSeen (seq : Word)
  | nackSeen (seq : Word)
  | dataAccepted (seq : Word) (slot : Nat) (txOk : Bool)
  | dataOutOfOrder (seq expected : Word) (txOk : Bool)
  | unknownType (type seq : Word)
  | formatError
  | checksumError
  /-- `consumed` is recorded by RECEIVE's short read and absent from TRANSMIT's failed write (R204). -/
  | transportError (consumed : Option Nat)
  | illegalCommand (opcode : Byte)
  deriving DecidableEq, Repr

/-- One record of the delivery port (20_memory.md R56). -/
structure Delivery where
  slot : Nat
  payload : List Byte
  deriving DecidableEq, Repr

/-- What the environment chooses inside one command (20_memory.md R54, R55; 93_implementation_defined.md I1, I2). These
are free values supplied from outside (log entry 3). -/
structure Draw where
  /-- How many bytes a read may return; the read returns this many or all it could, whichever is less. -/
  read : Nat
  /-- `none`: a write succeeds. `some j`: it fails and leaves the first `j` bytes, cut to a strict prefix. -/
  write : Option Nat
  deriving DecidableEq, Repr

/-- What the outside does to the block, one entry per step (20_memory.md R51, R53, R55, R69; 70_reset_and_hazards.md
R230; log entries 4 and 11). -/
inductive Input where
  /-- The host issues a command; the environment makes these draws inside it. -/
  | command (c : Command) (d : Draw)
  /-- The environment appends bytes to RX. -/
  | arrive (bs : List Byte)
  /-- The environment takes `n` bytes from the head of TX. -/
  | take (n : Nat)
  /-- Power-on; it leaves any value in NACK_SEQ (I3). -/
  | powerOn (nackSeq : Word)
  deriving DecidableEq, Repr

/-- The state. The first five fields are the block's registers, exactly those of R20. -/
structure State where
  /-- `CRC`, the remainder register of the streaming CRC unit (R22). -/
  crc : Word
  /-- `EXPECTED_SEQ` (R25). -/
  expectedSeq : Word
  /-- `LAST_ACKED` (R26). -/
  lastAcked : Word
  /-- `NACK_PENDING` (R27). -/
  nackPending : Bool
  /-- `NACK_SEQ` (R27, R30). -/
  nackSeq : Word
  /-- The RX channel, head first (20_memory.md R53). -/
  rx : List Byte
  /-- The TX channel, head first (20_memory.md R55). -/
  tx : List Byte
  /-- The delivery port's records, oldest first (20_memory.md R56). -/
  delivered : List Delivery
  /-- The outside's actions still to come, next first (log entry 4). -/
  inputs : List Input
  /-- The latest command's response on the command port (20_memory.md R51; log entry 9). -/
  response : Option Response
  /-- The draws of the command being executed (log entry 3). -/
  draw : Draw
  deriving DecidableEq, Repr

/-- Reasons a step stops with a fault. There are none: the block has no traps (60_exceptions.md R200, R212) and every
command completes in one transition with a response (70_reset_and_hazards.md R247), so nothing raises one. Safe. -/
inductive Fault where
  deriving DecidableEq, Repr

/-- Reasons a step refuses. -/
inductive Refusal where
  /-- An instruction of the table whose arm in `exec` has no meaning yet: raised by such an arm only, and no arm is one.
  Safe: a refused run supports no claim. -/
  | notModelled (mnemonic : String)
  deriving DecidableEq, Repr

/-- The state of the instance `c` right after reset: the registers as R230 says; NACK_SEQ, the channels, the ports and the
draw as log entries 3, 4, 8, 9 and 10 say. -/
def State.resetOn (c : Config) : State where
  crc := c.CRC_INIT
  expectedSeq := 0x0000
  lastAcked := 0xFFFF
  nackPending := false
  nackSeq := 0x0000
  rx := []
  tx := []
  delivered := []
  inputs := []
  response := none
  draw := ⟨0, none⟩

/-- The state of this machine right after reset. -/
def State.reset : State := State.resetOn Config.here

end Sys2Proof.Machine
end

