-- ==== Sys2Proof/Machine/Ops.lean ====
section
/-! DEFINITION. The named operations on registers, channels and ports: the primitives of 00_scope.md R14, ending a command
(with a result or an error, 60_exceptions.md R200, R205), the reset assignment (70_reset_and_hazards.md R230), and the
result codes (R201). -/

namespace Sys2Proof.Machine

/-! ## Registers -/

/-- `CRC <- v`. -/
def State.setCrc (v : Word) (s : State) : State := { s with crc := v }

/-- `EXPECTED_SEQ <- v`. -/
def State.setExpectedSeq (v : Word) (s : State) : State := { s with expectedSeq := v }

/-- `LAST_ACKED <- v`. -/
def State.setLastAcked (v : Word) (s : State) : State := { s with lastAcked := v }

/-- `NACK_PENDING <- 1; NACK_SEQ <- v` (R155). -/
def State.setNack (v : Word) (s : State) : State := { s with nackPending := true, nackSeq := v }

/-- `NACK_PENDING <- 0`; NACK_SEQ keeps its unobservable value (R183). -/
def State.clearNackPending (s : State) : State := { s with nackPending := false }

/-- The optional value READ_STATUS returns (R27, R182). -/
def State.nackValue (s : State) : Option Word := if s.nackPending then some s.nackSeq else none

/-- The state assignment that RESET and power-on share (R180, R230): every register but NACK_SEQ, and no channel or port
(R231). -/
def State.resetRegisters (c : Config) (s : State) : State :=
  { s with crc := c.CRC_INIT, expectedSeq := 0x0000, lastAcked := 0xFFFF, nackPending := false }

/-! ## Channels and the delivery port (20_memory.md R53 to R56) -/

/-- `RxAvailable()`, R53. -/
def State.rxAvailable (s : State) : Nat := s.rx.length

/-- The `k` that a read of `n` bytes draws, with `0 <= k <= min(n, len(rx))` (R54). -/
def State.readCount (n : Nat) (s : State) : Nat := min s.draw.read (min n s.rx.length)

/-- What `RxRead(n)` returns, R54. -/
def State.rxBytes (n : Nat) (s : State) : List Byte := s.rx.take (s.readCount n)

/-- The state `RxRead(n)` leaves, R54. -/
def State.rxConsume (n : Nat) (s : State) : State := { s with rx := s.rx.drop (s.readCount n) }

/-- Whether `TxWrite` returns `ok`, R55. -/
def State.writeOk (s : State) : Bool := s.draw.write.isNone

/-- What `TxWrite(bs)` puts on TX: all of it, or a strict prefix when the write fails (R55). -/
def State.written (bs : List Byte) (s : State) : List Byte :=
  match s.draw.write with
  | none => bs
  | some j => bs.take (min j (bs.length - 1))

/-- The state `TxWrite(bs)` leaves, R55. -/
def State.txWrite (bs : List Byte) (s : State) : State := { s with tx := s.tx ++ s.written bs }

/-- `Deliver(slot, p)`, R56. -/
def State.deliver (slot : Nat) (p : List Byte) (s : State) : State :=
  { s with delivered := s.delivered ++ [⟨slot, p⟩] }

/-! ## Ending a command -/

/-- `return R(fields)`: the command ends with this response on the port (R14, R51). -/
def State.respond (r : Response) (s : State) : State := { s with response := some r }

/-- `raise E(info)`, the one way a command ends with an error (R14, R200, R205): the response is the whole report. No
state is saved, no mode changes, control goes nowhere and nothing is held (R212, R213), so there is nothing to return
from. -/
def State.raiseError (e : Response) (s : State) : State := s.respond e

/-- A command that no decoder row takes: ILLEGAL_COMMAND with no other effect (43_control.md R181; R206). -/
def State.illegalCommand (op : Byte) (s : State) : State := s.raiseError (.illegalCommand op)

/-! ## Result codes -/

/-- The result code of a response, R201. -/
def Response.code : Response → Byte
  | .ok => 0x00
  | .okCrc _ => 0x00
  | .okFrame _ => 0x00
  | .okDecoded _ _ _ _ => 0x00
  | .okStatus _ _ _ => 0x00
  | .noPacket => 0x01
  | .ackSeen _ => 0x02
  | .nackSeen _ => 0x03
  | .dataAccepted _ _ _ => 0x04
  | .dataOutOfOrder _ _ _ => 0x05
  | .unknownType _ _ => 0x06
  | .formatError => 0x80
  | .checksumError => 0x81
  | .transportError _ => 0x82
  | .illegalCommand _ => 0x83

/-- The kind column of R201: the errors are the codes from 0x80 on. -/
def Response.isError : Response → Bool
  | .formatError => true
  | .checksumError => true
  | .transportError _ => true
  | .illegalCommand _ => true
  | _ => false

/-- The class column of R161: `some true` is "handled", `some false` is "no packet", `none` is no outcome of RECEIVE. -/
def Response.handled : Response → Option Bool
  | .noPacket => some false
  | .transportError (some _) => some false
  | .checksumError => some true
  | .ackSeen _ => some true
  | .nackSeen _ => some true
  | .dataAccepted _ _ _ => some true
  | .dataOutOfOrder _ _ _ => some true
  | .unknownType _ _ => some true
  | _ => none

end Sys2Proof.Machine
end

