-- ==== Sys2Proof/Machine/Control.lean ====
section
/-! DEFINITION. The control and status commands (43_control.md R180, R182, R183). -/

namespace Sys2Proof.Machine

/-- RESET on the instance `c`, R180: the registers, and no channel or port but the response. -/
def resetCommand (c : Config) (s : State) : State := (s.resetRegisters c).respond .ok

/-- RESET, R180. -/
def execReset (s : State) : Host.Outcome State Fault Refusal :=
  .next (resetCommand Config.here s)

/-- READ_STATUS on any instance, R182: no register is written. -/
def readStatusCommand (s : State) : State := s.respond (.okStatus s.expectedSeq s.lastAcked s.nackValue)

/-- READ_STATUS, R182. -/
def execReadStatus (s : State) : Host.Outcome State Fault Refusal :=
  .next (readStatusCommand s)

/-- CLEAR_NACK on any instance, R183. -/
def clearNackCommand (s : State) : State := s.clearNackPending.respond .ok

/-- CLEAR_NACK, R183. -/
def execClearNack (s : State) : Host.Outcome State Fault Refusal :=
  .next (clearNackCommand s)

end Sys2Proof.Machine
end

