-- ==== Sys2Proof/Machine/Crc.lean ====
section
/-! DEFINITION. The streaming CRC commands (40_crc.md R110 to R113). They alone read or write `CRC` (10_state.md R22).
Each function before a meaning takes the instance's configuration (R20); the meaning is that function at this machine's. -/

namespace Sys2Proof.Machine

/-- CRC_INIT on the instance `c`, R110. -/
def crcInitCommand (c : Config) (s : State) : State := (s.setCrc c.CRC_INIT).respond .ok

/-- CRC_INIT, R110. -/
def execCrcInit (s : State) : Host.Outcome State Fault Refusal :=
  .next (crcInitCommand Config.here s)

/-- CRC_BIT on the instance `c`, R111. -/
def crcBitCommand (c : Config) (b : Bool) (s : State) : State :=
  (s.setCrc (crcBitStep c.POLY s.crc b)).respond .ok

/-- CRC_BIT, R111. -/
def execCrcBit (b : Bool) (s : State) : Host.Outcome State Fault Refusal :=
  .next (crcBitCommand Config.here b s)

/-- CRC_BYTE on the instance `c`, R112. -/
def crcByteCommand (c : Config) (v : Byte) (s : State) : State :=
  (s.setCrc (crcByteStep c.POLY s.crc v)).respond .ok

/-- CRC_BYTE, R112. -/
def execCrcByte (v : Byte) (s : State) : Host.Outcome State Fault Refusal :=
  .next (crcByteCommand Config.here v s)

/-- CRC_READ on any instance, R113: the register as it stands. -/
def crcReadCommand (s : State) : State := s.respond (.okCrc s.crc)

/-- CRC_READ, R113. -/
def execCrcRead (s : State) : Host.Outcome State Fault Refusal :=
  .next (crcReadCommand s)

end Sys2Proof.Machine
end

