-- ==== Sys2Proof/Machine/Framer.lean ====
section
/-! DEFINITION. The framer and parser commands (41_framer.md R134 to R136). Each function before a meaning takes the
instance's configuration (10_state.md R20); the meaning is that function at this machine's. -/

namespace Sys2Proof.Machine

/-- ENCODE on the instance `c`, R134. -/
def encodeCommand (c : Config) (t : PacketType) (sq : Word) (p : List Byte) (s : State) : State :=
  if c.D < p.length then s.raiseError .formatError
  else s.respond (.okFrame (encodePacket c t sq p))

/-- ENCODE, R134. -/
def execEncode (t : PacketType) (sq : Word) (p : List Byte) (s : State) : Host.Outcome State Fault Refusal :=
  .next (encodeCommand Config.here t sq p s)

/-- DECODE on the instance `c`, R135: the raw fields, valid or not. -/
def decodeFrame (c : Config) (f : List Byte) (s : State) : State :=
  if f.length = c.N then
    let (ty, sq, pl) := parsePacket c f
    s.respond (.okDecoded ty sq pl (validFlag c f))
  else s.raiseError .formatError

/-- DECODE, R135. -/
def execDecode (f : List Byte) (s : State) : Host.Outcome State Fault Refusal :=
  .next (decodeFrame Config.here f s)

/-- TRANSMIT on the instance `c`, R136. -/
def transmitPacket (c : Config) (t : PacketType) (sq : Word) (p : List Byte) (s : State) : State :=
  if c.D < p.length then s.raiseError .formatError
  else if s.writeOk then (s.txWrite (encodePacket c t sq p)).respond .ok
  else (s.txWrite (encodePacket c t sq p)).raiseError (.transportError none)

/-- TRANSMIT, R136. -/
def execTransmit (t : PacketType) (sq : Word) (p : List Byte) (s : State) : Host.Outcome State Fault Refusal :=
  .next (transmitPacket Config.here t sq p s)

end Sys2Proof.Machine
end

