-- ==== Sys2Proof/Machine/Receive.lean ====
section
/-! DEFINITION. RECEIVE and the packet type/sequence decoder (42_receive.md R150 to R160). The three packet-type rows of
the opcode table are the actions the decoder takes on a valid packet of that type; RECEIVE fetches the packet and runs
the action (log entry 6). -/

namespace Sys2Proof.Machine

/-- The action on a valid Ack, R154: unconditional, the payload ignored. -/
def ackAction (sq : Word) (_pl : List Byte) (s : State) : State :=
  (s.setLastAcked sq).respond (.ackSeen sq)

/-- The action on a valid Nack, R155: unconditional, the payload ignored. -/
def nackAction (sq : Word) (_pl : List Byte) (s : State) : State :=
  (s.setNack sq).respond (.nackSeen sq)

/-- The slot a sequence is delivered to: `sq mod B` (R157). -/
def slotOf (c : Config) (sq : Word) : Nat := sq.toNat % c.B

/-- An in-order Data packet (R156, R157, R158): count it, deliver it, then emit its Ack. A failed write changes only
`tx_ok`. -/
def acceptData (c : Config) (sq : Word) (pl : List Byte) (s : State) : State :=
  let s' := (s.setExpectedSeq (s.expectedSeq + 1)).deliver (slotOf c sq) pl
  (s'.txWrite (encodePacket c .ack sq [])).respond (.dataAccepted sq (slotOf c sq) s'.writeOk)

/-- An out-of-order Data packet (R159): the payload is dropped and a Nack names the expected sequence. -/
def nackData (c : Config) (sq : Word) (s : State) : State :=
  (s.txWrite (encodePacket c .nack s.expectedSeq [])).respond (.dataOutOfOrder sq s.expectedSeq s.writeOk)

/-- The action on a valid Data packet: 16-bit equality with EXPECTED_SEQ decides (R156, R159). -/
def dataAction (c : Config) (sq : Word) (pl : List Byte) (s : State) : State :=
  if sq = s.expectedSeq then acceptData c sq pl s else nackData c sq s

/-- ACK, R154. -/
def execAck (sq : Word) (pl : List Byte) (s : State) : Host.Outcome State Fault Refusal :=
  .next (ackAction sq pl s)

/-- NACK, R155. -/
def execNack (sq : Word) (pl : List Byte) (s : State) : Host.Outcome State Fault Refusal :=
  .next (nackAction sq pl s)

/-- DATA, R156 to R159. -/
def execData (sq : Word) (pl : List Byte) (s : State) : Host.Outcome State Fault Refusal :=
  .next (dataAction Config.here sq pl s)

/-- Type dispatch on a valid packet's fields, R153: exactly one of R154, R155, R156/R159 and R160. -/
def dispatchPacket (c : Config) (ty sq : Word) (pl : List Byte) (s : State) : State :=
  if ty = 0x0001 then ackAction sq pl s
  else if ty = 0x0002 then nackAction sq pl s
  else if ty = 0x0003 then dataAction c sq pl s
  else s.respond (.unknownType ty sq)

/-- What RECEIVE does with the bytes `f` it has read, in the order of R209: short read (R151), residue (R152), type. -/
def receiveBytes (c : Config) (f : List Byte) (s : State) : State :=
  if f.length < c.N then s.raiseError (.transportError (some f.length))
  else if residue c f = 0x0000 then
    let (ty, sq, pl) := parsePacket c f
    dispatchPacket c ty sq pl s
  else s.raiseError .checksumError

/-- RECEIVE on the instance `c`, R150. -/
def receivePacket (c : Config) (s : State) : State :=
  if s.rxAvailable < c.N then s.respond .noPacket
  else receiveBytes c (s.rxBytes c.N) (s.rxConsume c.N)

/-- RECEIVE, R150. -/
def execReceive (s : State) : Host.Outcome State Fault Refusal :=
  .next (receivePacket Config.here s)

end Sys2Proof.Machine
end

