-- ==== Sys2Proof/Syntax.lean ====
section
/-! DEFINITION. The instructions: one constructor for each row of spec/opcode_table.json, eleven commands of the command
port (30_encoding.md R85) and the three packet types of the type/sequence decoder (R87). -/

namespace Sys2Proof

/-- One constructor per row of the opcode table, with the typed operands R85 lists, or the fields R80 gives a packet. -/
inductive Instr where
  /-- RESET, R180. -/
  | reset
  /-- CRC_INIT, R110. -/
  | crcInit
  /-- CRC_BIT `b : bit`, R111. -/
  | crcBit (b : Bool)
  /-- CRC_BYTE `v : u8`, R112. -/
  | crcByte (v : Byte)
  /-- CRC_READ, R113. -/
  | crcRead
  /-- ENCODE `t : PacketType`, `s : u16`, `p : bytes`, R134. -/
  | encode (t : PacketType) (sq : Word) (p : List Byte)
  /-- DECODE `f : bytes`, R135. -/
  | decode (f : List Byte)
  /-- TRANSMIT `t : PacketType`, `s : u16`, `p : bytes`, R136. -/
  | transmit (t : PacketType) (sq : Word) (p : List Byte)
  /-- RECEIVE, R150. -/
  | receive
  /-- READ_STATUS, R182. -/
  | readStatus
  /-- CLEAR_NACK, R183. -/
  | clearNack
  /-- The packet type ACK, R154. -/
  | ack (sq : Word) (pl : List Byte)
  /-- The packet type NACK, R155. -/
  | nack (sq : Word) (pl : List Byte)
  /-- The packet type DATA, R156 and R159. -/
  | data (sq : Word) (pl : List Byte)
  deriving DecidableEq, Repr

end Sys2Proof
end

