-- ==== Sys2Proof/Machine/Dispatch.lean ====
section
/-! DEFINITION. One arm per instruction. -/

namespace Sys2Proof.Machine

def exec (i : Instr) (s : State) : Host.Outcome State Fault Refusal :=
  match i with
  -- the eleven commands
  | .reset => Sys2Proof.Machine.execReset s
  | .crcInit => Sys2Proof.Machine.execCrcInit s
  | .crcBit b => Sys2Proof.Machine.execCrcBit b s
  | .crcByte v => Sys2Proof.Machine.execCrcByte v s
  | .crcRead => Sys2Proof.Machine.execCrcRead s
  | .encode t sq p => Sys2Proof.Machine.execEncode t sq p s
  | .decode f => Sys2Proof.Machine.execDecode f s
  | .transmit t sq p => Sys2Proof.Machine.execTransmit t sq p s
  | .receive => Sys2Proof.Machine.execReceive s
  | .readStatus => Sys2Proof.Machine.execReadStatus s
  | .clearNack => Sys2Proof.Machine.execClearNack s
  -- the three packet types
  | .ack sq pl => Sys2Proof.Machine.execAck sq pl s
  | .nack sq pl => Sys2Proof.Machine.execNack sq pl s
  | .data sq pl => Sys2Proof.Machine.execData sq pl s

end Sys2Proof.Machine
end

