-- ==== Sys2Proof/WellFormed.lean ====
section
/-! DEFINITION. Which instructions can be written down in the hardware's encodings. The typed operands of R85 carry
their own checks (R86: "The lengths of `p` and `f` are not restricted by the type"); a packet's payload is exactly `D`
bytes (30_encoding.md R80, R83). -/

namespace Sys2Proof

/-- Well-formed for the instance `c`. -/
def Instr.wfOn (c : Config) : Instr → Bool
  | .reset => true
  | .crcInit => true
  | .crcBit _ => true
  | .crcByte _ => true
  | .crcRead => true
  | .encode _ _ _ => true
  | .decode _ => true
  | .transmit _ _ _ => true
  | .receive => true
  | .readStatus => true
  | .clearNack => true
  | .ack _ pl => pl.length == c.D
  | .nack _ pl => pl.length == c.D
  | .data _ pl => pl.length == c.D

/-- Well-formed for this machine. -/
def Instr.wf (i : Instr) : Bool := i.wfOn Config.here

end Sys2Proof
end

