-- ==== Sys2Proof/Decode.lean ====
section
/-! DEFINITION. The two decoders, from command records (30_encoding.md R85, R86, R90, R91) and from packets (R80, R87,
R88), each total and rejecting by name; then the encoder, from the same tables; then the opcode table's numbering. -/

namespace Sys2Proof

/-! ## The opcodes of R85 -/

def opReset : Byte := 0x01
def opCrcInit : Byte := 0x10
def opCrcBit : Byte := 0x11
def opCrcByte : Byte := 0x12
def opCrcRead : Byte := 0x13
def opEncode : Byte := 0x20
def opDecode : Byte := 0x21
def opTransmit : Byte := 0x22
def opReceive : Byte := 0x30
def opReadStatus : Byte := 0x31
def opClearNack : Byte := 0x32

/-- The assigned opcodes; every other opcode is reserved (R90). -/
def assignedOpcodes : List Byte :=
  [opReset, opCrcInit, opCrcBit, opCrcByte, opCrcRead, opEncode, opDecode, opTransmit, opReceive, opReadStatus,
    opClearNack]

/-! ## Operand lists (R85, R86, R91) -/

/-- A command with no operands. -/
def noOperands (i : Instr) (c : Command) : Except Reject Instr :=
  match c.operands with
  | [] => .ok i
  | _ => .error (.illFormedOperand c.opcode)

/-- The operand `b : bit`. -/
def bitOperand (c : Command) : Except Reject Instr :=
  match c.operands with
  | [.num n] =>
    if n = 0 then .ok (.crcBit false) else if n = 1 then .ok (.crcBit true) else .error (.illFormedOperand c.opcode)
  | _ => .error (.illFormedOperand c.opcode)

/-- The operand `v : u8`. -/
def byteOperand (c : Command) : Except Reject Instr :=
  match c.operands with
  | [.num n] => if n < 256 then .ok (.crcByte (BitVec.ofNat 8 n)) else .error (.illFormedOperand c.opcode)
  | _ => .error (.illFormedOperand c.opcode)

/-- The operand `f : bytes`. -/
def bytesOperand (c : Command) : Except Reject Instr :=
  match c.operands with
  | [.bytes f] => .ok (.decode f)
  | _ => .error (.illFormedOperand c.opcode)

/-- The operands `t : PacketType`, `s : u16`, `p : bytes` of ENCODE and TRANSMIT. -/
def packetOperands (mk : PacketType → Word → List Byte → Instr) (c : Command) : Except Reject Instr :=
  match c.operands with
  | [.num t, .num sq, .bytes p] =>
    match packetTypeOfNum t with
    | some ty => if sq < 65536 then .ok (mk ty (BitVec.ofNat 16 sq) p) else .error (.illFormedOperand c.opcode)
    | none => .error (.illFormedOperand c.opcode)
  | _ => .error (.illFormedOperand c.opcode)

/-! ## The decoders -/

/-- The command decoder: the opcode selects the command with mask 0xFF (R85); reserved opcodes are decided before
anything else (R210). -/
def decodeCommand (c : Command) : Except Reject Instr :=
  if c.opcode = opReset then noOperands .reset c
  else if c.opcode = opCrcInit then noOperands .crcInit c
  else if c.opcode = opCrcBit then bitOperand c
  else if c.opcode = opCrcByte then byteOperand c
  else if c.opcode = opCrcRead then noOperands .crcRead c
  else if c.opcode = opEncode then packetOperands .encode c
  else if c.opcode = opDecode then bytesOperand c
  else if c.opcode = opTransmit then packetOperands .transmit c
  else if c.opcode = opReceive then noOperands .receive c
  else if c.opcode = opReadStatus then noOperands .readStatus c
  else if c.opcode = opClearNack then noOperands .clearNack c
  else .error (.reservedOpcode c.opcode)

/-- The packet type/sequence decoder's map (R87): a 16-bit compare of the type field. -/
def packetInstr (ty sq : Word) (pl : List Byte) : Except Reject Instr :=
  if ty = 0x0001 then .ok (.ack sq pl)
  else if ty = 0x0002 then .ok (.nack sq pl)
  else if ty = 0x0003 then .ok (.data sq pl)
  else .error (.reservedType ty)

/-- The decoder of a packet: its length (R80), then its residue (R133, R152: before any field is interpreted), then
its type (R87, R88). -/
def decodePacket (c : Config) (f : List Byte) : Except Reject Instr :=
  if f.length = c.N then
    if residue c f = 0x0000 then packetInstr (typeField f) (seqField f) (payloadField c f)
    else .error (.nonzeroResidue (residue c f))
  else .error (.wrongLength f.length)

/-- Both decoders. -/
def decodeOn (c : Config) : Encoded → Except Reject Instr
  | .command k => decodeCommand k
  | .packet f => decodePacket c f

def decode : Encoded → Except Reject Instr := decodeOn Config.here

/-! ## The encoder -/

/-- The words of an instruction: R85's row for a command, `Encode`'s layout (R80, R130) for a packet. -/
def encodeOn (c : Config) : Instr → Encoded
  | .reset => .command ⟨opReset, []⟩
  | .crcInit => .command ⟨opCrcInit, []⟩
  | .crcBit b => .command ⟨opCrcBit, [.num b.toNat]⟩
  | .crcByte v => .command ⟨opCrcByte, [.num v.toNat]⟩
  | .crcRead => .command ⟨opCrcRead, []⟩
  | .encode t sq p => .command ⟨opEncode, [.num (numOfPacketType t), .num sq.toNat, .bytes p]⟩
  | .decode f => .command ⟨opDecode, [.bytes f]⟩
  | .transmit t sq p => .command ⟨opTransmit, [.num (numOfPacketType t), .num sq.toNat, .bytes p]⟩
  | .receive => .command ⟨opReceive, []⟩
  | .readStatus => .command ⟨opReadStatus, []⟩
  | .clearNack => .command ⟨opClearNack, []⟩
  | .ack sq pl => .packet (encodePacket c .ack sq pl)
  | .nack sq pl => .packet (encodePacket c .nack sq pl)
  | .data sq pl => .packet (encodePacket c .data sq pl)

def encode : Instr → Encoded := encodeOn Config.here

/-! ## The opcode table's numbering (log entry 7) -/

/-- The operands that stand for "operand words of zeros": the least value of each operand's type. The table gives
operands no bits; R86 leaves a `PacketType` no value 0, so its least value is ACK = 1. -/
def leastOperands (op : Byte) : List Operand :=
  if op = opCrcBit then [.num 0]
  else if op = opCrcByte then [.num 0]
  else if op = opEncode then [.num 1, .num 0, .bytes []]
  else if op = opDecode then [.bytes []]
  else if op = opTransmit then [.num 1, .num 0, .bytes []]
  else []

/-- The command record of a command row's word: its opcode byte and the least operands. -/
def tableCommand (w : Nat) : Command := ⟨BitVec.ofNat 8 w, leastOperands (BitVec.ofNat 8 w)⟩

/-- The packet of a packet-type row's word: byte `k` of header and payload is bits `8k+7..8k` of the word (offset 0
first, R80), and the trailer is the one R131 gives that body, as the line carries no other. -/
def tableFrame (c : Config) (w : Nat) : List Byte :=
  let body := (List.range (4 + c.D)).map fun k => BitVec.ofNat 8 (w >>> (8 * k))
  body ++ trailer c body

/-- What the decoder reads from an opcode-table word: a command row has one opcode byte, a packet-type row the two type
bytes. -/
def decodeTableWord (nbits w : Nat) : Option Instr :=
  if nbits ≤ 8 then (decode (.command (tableCommand w))).toOption
  else (decode (.packet (tableFrame Config.here w))).toOption

end Sys2Proof
end

