-- ==== Sys2Proof/Machine/Port.lean ====
section
/-! DEFINITION. The outside's actions other than a well-formed command (20_memory.md R53, R55, R69), what the command port
takes in, what one step does with the next input, and how an opcode-table word is placed where the next step fetches it
(log entry 7). -/

namespace Sys2Proof.Machine

/-- The next input leaves the list. -/
def State.popInput (rest : List Input) (s : State) : State := { s with inputs := rest }

/-- The environment's draws for the command about to run. -/
def State.setDraw (d : Draw) (s : State) : State := { s with draw := d }

/-- The environment appends bytes to RX, in order (R53). -/
def State.arrive (bs : List Byte) (s : State) : State := { s with rx := s.rx ++ bs }

/-- The environment takes `n` bytes, or all there are, from the head of TX (R55). -/
def State.takeTx (n : Nat) (s : State) : State := { s with tx := s.tx.drop n }

/-- Power-on (R230): the reset assignment, with any value in NACK_SEQ. Channels and ports are not touched (R231). -/
def State.powerOn (c : Config) (nackSeq : Word) (s : State) : State :=
  { s.resetRegisters c with nackSeq := nackSeq }

/-- The command port's reading of a command: an instruction, or none where the decoder refuses (R181). -/
def portInstr (k : Command) : Option Instr := (decodeCommand k).toOption

/-- One step of the instance `c` whose instructions run as `run` says: the next input takes effect. Commands take effect
one at a time, in issue order, each atomic (20_memory.md R63, R69); with nothing to do the block is idle and all state
persists (60_exceptions.md R219). -/
def stepWith (c : Config) (run : Instr → State → Host.Outcome State Fault Refusal) (s : State) :
    Host.Outcome State Fault Refusal :=
  match s.inputs with
  | [] => .next s
  | .arrive bs :: rest => .next ((s.popInput rest).arrive bs)
  | .take n :: rest => .next ((s.popInput rest).takeTx n)
  | .powerOn v :: rest => .next ((s.popInput rest).powerOn c v)
  | .command k d :: rest =>
    match portInstr k with
    | some i => run i ((s.popInput rest).setDraw d)
    | none => .next (((s.popInput rest).setDraw d).illegalCommand k.opcode)

/-- The command `k` issued as the very next input, with the draws in place. -/
def State.issue (k : Command) (d : Draw) (s : State) : State := { s with inputs := .command k d :: s.inputs }

/-- The packet `f` placed at the head of RX, a RECEIVE issued as the very next input, and a read that returns a whole
packet: all that a packet-type row's fetch takes. -/
def State.placePacket (c : Config) (f : List Byte) (s : State) : State :=
  ({ s with rx := f ++ s.rx }).issue ⟨opReceive, []⟩ ⟨c.N, s.draw.write⟩

/-- An opcode-table word placed where the next step fetches. -/
def State.placeWord (c : Config) (nbits w : Nat) (s : State) : State :=
  if nbits ≤ 8 then s.issue (tableCommand w) s.draw else s.placePacket c (tableFrame c w)

end Sys2Proof.Machine
end

