-- ==== Sys2Proof/Machine/Step.lean ====
section
/-! DEFINITION. One step of this machine, and where a word is stored for it to fetch. -/

namespace Sys2Proof.Machine

/-- The next input takes effect; a command runs as `exec` says. -/
def step (s : State) : Host.Outcome State Fault Refusal := stepWith Config.here exec s

/-- The opcode-table word `w` stored where `step` fetches its next instruction: a command row on the command port, a
packet-type row at the head of RX with a RECEIVE on the port (log entries 4, 6 and 7). -/
def State.withFetchWord (s : State) (nbits w : Nat) : State := s.placeWord Config.here nbits w

end Sys2Proof.Machine
end

