-- ==== Sys2Proof/Machine/Instance.lean ====
section
/-! DEFINITION. The machine of any instance: `D`, `B`, `POLY` and `CRC_INIT` are arguments of the step (10_state.md R20;
00_scope.md R5 to R8; 93_implementation_defined.md I4 to I7). `exec`, `step` and `State.reset` are `execOn`, `stepOn` and
`State.resetOn` at `Config.here` (log entry 2). -/

namespace Sys2Proof.Machine

/-- The meaning of each instruction on the instance `c`. -/
def execOn (c : Config) (i : Instr) (s : State) : Host.Outcome State Fault Refusal :=
  match i with
  | .reset => .next (resetCommand c s)
  | .crcInit => .next (crcInitCommand c s)
  | .crcBit b => .next (crcBitCommand c b s)
  | .crcByte v => .next (crcByteCommand c v s)
  | .crcRead => .next (crcReadCommand s)
  | .encode t sq p => .next (encodeCommand c t sq p s)
  | .decode f => .next (decodeFrame c f s)
  | .transmit t sq p => .next (transmitPacket c t sq p s)
  | .receive => .next (receivePacket c s)
  | .readStatus => .next (readStatusCommand s)
  | .clearNack => .next (clearNackCommand s)
  | .ack sq pl => .next (ackAction sq pl s)
  | .nack sq pl => .next (nackAction sq pl s)
  | .data sq pl => .next (dataAction c sq pl s)

/-- One step of the instance `c`. -/
def stepOn (c : Config) (s : State) : Host.Outcome State Fault Refusal := stepWith c (execOn c) s

/-- The instance `c` as a machine. -/
def coreOn (c : Config) : Host.Core :=
  { State := State, Fault := Fault, Refusal := Refusal, step := stepOn c, reset := State.resetOn c }

end Sys2Proof.Machine
end

