-- ==== Sys2Proof/Safety.lean ====
section
/-! DEFINITION. What claims about a run are stated in: the invariant every step keeps, equality of the registers, what a
host can observe, and the launch premises of 70_reset_and_hazards.md R232 and R234. -/

namespace Sys2Proof.Machine

/-! ## The invariant -/

/-- A delivery record as 20_memory.md R56 has it: a slot in `[0, B)` and exactly `D` bytes. -/
def Delivery.wfOn (c : Config) (r : Delivery) : Bool := decide (r.slot < c.B) && r.payload.length == c.D

/-- A response whose fields are those its rule allows: a frame of ENCODE is `N` bytes with zero residue (R130, R133), a
decoded payload is `D` bytes (R83), an accepted packet's slot is `sequence mod B` (R157), an out-of-order sequence is not
the expected one (R159), an unknown type is reserved (R88), a short read consumed fewer than `N` bytes (R204). -/
def Response.wfOn (c : Config) : Response → Bool
  | .ok => true
  | .okCrc _ => true
  | .okFrame f => f.length == c.N && validFlag c f
  | .okDecoded _ _ pl _ => pl.length == c.D
  | .okStatus _ _ _ => true
  | .noPacket => true
  | .ackSeen _ => true
  | .nackSeen _ => true
  | .dataAccepted sq slot _ => slot == slotOf c sq && decide (slot < c.B)
  | .dataOutOfOrder sq e _ => sq != e
  | .unknownType ty _ => ty != 0x0001 && ty != 0x0002 && ty != 0x0003
  | .formatError => true
  | .checksumError => true
  | .transportError none => true
  | .transportError (some k) => decide (k < c.N)
  | .illegalCommand _ => true

/-- Every record ever delivered and the response on the port are well formed for the instance `c`. -/
def State.InvOn (c : Config) (s : State) : Prop :=
  (∀ r ∈ s.delivered, r.wfOn c = true) ∧ (∀ r ∈ s.response, r.wfOn c = true)

/-- The same for this machine. -/
def State.Inv (s : State) : Prop := s.InvOn Config.here

/-! ## Comparing states -/

/-- The block registers of 10_state.md R20 hold the same values. -/
def State.sameRegisters (s t : State) : Prop :=
  t.crc = s.crc ∧ t.expectedSeq = s.expectedSeq ∧ t.lastAcked = s.lastAcked ∧ t.nackPending = s.nackPending ∧
    t.nackSeq = s.nackSeq

/-- The state less the value 10_state.md R30 calls hidden: NACK_SEQ while NACK_PENDING = 0. -/
def State.eraseHidden (s : State) : State := if s.nackPending then s else { s with nackSeq := 0 }

/-! ## Byte strings as bits, and errors on the line (40_crc.md R118) -/

/-- The bits of a byte string in the order of 95_test_vectors.md section 3: frame bit `i` is bit `7 - (i mod 8)` of byte
`i div 8`. -/
def frameBits (f : List Byte) : List Bool := f.flatMap bitsOf

/-- `f XOR e`. -/
def xorBytes (f e : List Byte) : List Byte := List.zipWith (· ^^^ ·) f e

/-! ## Launch premises -/

/-- Both ends have equal `D`, `POLY` and `CRC_INIT` (R234). -/
def Config.agrees (a b : Config) : Prop := a.D = b.D ∧ a.POLY = b.POLY ∧ a.CRC_INIT = b.CRC_INIT

/-- The registers hold their values of R230. -/
def State.registersReset (c : Config) (s : State) : Prop :=
  s.crc = c.CRC_INIT ∧ s.expectedSeq = 0x0000 ∧ s.lastAcked = 0xFFFF ∧ s.nackPending = false

/-- One end at launch, with its host's `send_seq`: reset, before any packet of the connection is sent, and the host's send
state consistent (R232 items 2 and 4). -/
def State.launched (c : Config) (sendSeq : Word) (s : State) : Prop :=
  s.registersReset c ∧ s.tx = [] ∧ sendSeq = 0 ∧ s.lastAcked = sendSeq - 1

/-- All the bytes that will be appended to RX, in order. -/
def State.arrivals (s : State) : List Byte :=
  s.inputs.flatMap fun
    | .arrive bs => bs
    | _ => []

/-- The bytes that the next `n` steps append to TX, in order. -/
def State.emitted (c : Config) : Nat → State → List Byte
  | 0, _ => []
  | n + 1, s =>
    match stepOn c s with
    | .next t => t.tx.drop s.tx.length ++ t.emitted c n
    | .fault _ => []
    | .refused _ => []

/-- All that this end will write to TX. -/
def State.sent (c : Config) (s : State) : List Byte := s.emitted c s.inputs.length

/-- `f` is one packet that `Encode` builds. -/
def IsPacket (c : Config) (f : List Byte) : Prop := ∃ t sq p, p.length ≤ c.D ∧ f = encodePacket c t sq p

/-- "The peer's first packet after the peer's reset is the first thing appended to RX after this end's reset": RX gets that
packet first, or has not yet got all of it. -/
def firstPacketFirst (c : Config) (peer s : State) : Prop :=
  ∃ f, IsPacket c f ∧ f <+: peer.sent c ∧ (f <+: s.arrivals ∨ s.arrivals <+: f)

/-- What becomes of one packet on an aligned channel: it is lost whole, or it arrives with errors `e` in place. -/
def arrivesAs (f : List Byte) : Option (List Byte) → List Byte
  | none => []
  | some e => xorBytes f e

/-- In the next `n` steps no command takes part of a packet from RX: each takes none of it, or all its `N` bytes. A short
read that consumes `k` bytes, `0 < k < N`, is the one way a command takes RX out of alignment (42_receive.md R151; R235). -/
def State.takesWholePackets (c : Config) : Nat → State → Prop
  | 0, _ => True
  | n + 1, s =>
    match stepOn c s with
    | .next t => c.N ∣ s.rx.length - t.rx.length ∧ t.takesWholePackets c n
    | .fault _ => True
    | .refused _ => True

/-- RX "stays aligned" (R233, R29, R235): what is appended to it is the peer's packets, in order, each lost whole or arriving
with all its `N` bytes, damaged or not; and this end never takes part of one. -/
def staysAligned (c : Config) (peer s : State) : Prop :=
  ∃ (ps : List (List Byte)) (fates : List (Option (List Byte))),
    (∀ f ∈ ps, IsPacket c f) ∧ peer.sent c = ps.flatten ∧ fates.length = ps.length ∧
    (∀ fate ∈ fates, ∀ e ∈ fate, e.length = c.N) ∧
    s.arrivals = (List.zipWith arrivesAs ps fates).flatten ∧ s.takesWholePackets c s.inputs.length

/-- The clean channel into one end from its peer (R232 item 3; log entry 13). -/
def cleanChannel (c : Config) (peer s : State) : Prop :=
  s.rx = [] ∧ (firstPacketFirst c peer s ∨ staysAligned c peer s)

/-- The launch premises of a connection between the ends `a` and `b` (R232). -/
def launchPremises (ca cb : Config) (a b : State) (seqA seqB : Word) : Prop :=
  Config.agrees ca cb ∧ ca.wf ∧ cb.wf ∧ a.launched ca seqA ∧ b.launched cb seqB ∧
    cleanChannel ca b a ∧ cleanChannel ca a b

end Sys2Proof.Machine
end

