-- ==== Sys2Proof/Certificates/Slice0/Obligations.lean ====
section
/-! DEFINITION. The statements for the provers. `Config.here` is this machine's instance: `D = 8`, `N = 14`, `POLY =
0x2110`, `CRC_INIT = 0x0000`, any `B >= 1`; `execOn` and `stepOn` are any instance's. An equation `exec i s = .next { s
with … }` says the result, that the instruction completes, and its frame: every field not named is unchanged. Rule numbers
in a docstring say what a statement is about; a statement whose rule the spec marks as its own decision or derivation has
basis 'derived'. -/

open Sys2Proof Sys2Proof.Machine

/-! ## Encoding and the step -/

/-- Words written out from 30_encoding.md R85 and 95_test_vectors.md decode to the instructions they stand for (V45, V40,
V31), and a type of 0x0100 is reserved, not an Ack (V54). The operand form of a command is log entry 5's choice. -/
def Obligations.SpecWordsDecode : Prop :=
  decode (.command ⟨0x01, []⟩) = .ok .reset ∧
  decode (.command ⟨0x11, [.num 1]⟩) = .ok (.crcBit true) ∧
  decode (.command ⟨0x20, [.num 3, .num 1, .bytes [0x49, 0x4A]]⟩) = .ok (.encode .data 1 [0x49, 0x4A]) ∧
  decode (.command ⟨0x30, []⟩) = .ok .receive ∧
  decode (.packet [0x01, 0x00, 0x07, 0x00, 0x11, 0x22, 0x00, 0x00, 0x00, 0x00, 0x00, 0x00, 0x2B, 0xA0]) =
    .ok (.ack 7 [0x11, 0x22, 0x00, 0x00, 0x00, 0x00, 0x00, 0x00]) ∧
  decode (.packet [0x02, 0x00, 0x01, 0x00, 0x00, 0x00, 0x00, 0x00, 0x00, 0x00, 0x00, 0x00, 0xF8, 0x10]) =
    .ok (.nack 1 (zeros 8)) ∧
  decode (.packet [0x03, 0x00, 0x01, 0x00, 0x49, 0x4A, 0x00, 0x00, 0x00, 0x00, 0x00, 0x00, 0x71, 0xD0]) =
    .ok (.data 1 [0x49, 0x4A, 0x00, 0x00, 0x00, 0x00, 0x00, 0x00]) ∧
  decode (.packet [0x00, 0x01, 0x05, 0x00, 0x00, 0x00, 0x00, 0x00, 0x00, 0x00, 0x00, 0x00, 0x45, 0xA0]) =
    .error (.reservedType 0x0100)

/-- A step whose next input is a command the decoder takes runs exactly that instruction, after the command has left the
list and its draws are in place (20_memory.md R51, R63; log entry 4). -/
def Obligations.StepRunsDecodedCommand : Prop :=
  ∀ (s : State) (k : Command) (d : Draw) (rest : List Input) (i : Instr),
    s.inputs = .command k d :: rest → decode (.command k) = .ok i →
      step s = exec i { s with inputs := rest, draw := d }

/-- A step whose next input is RECEIVE, with a packet that decodes to `i` at the head of RX and a read that returns all
of it, runs exactly `i` on the state the packet has left (42_receive.md R150, R153; log entry 6). -/
def Obligations.StepRunsDecodedPacket : Prop :=
  ∀ (s : State) (d : Draw) (rest : List Input) (f tail : List Byte) (i : Instr),
    s.inputs = .command ⟨0x30, []⟩ d :: rest → Config.here.N ≤ d.read → s.rx = f ++ tail →
    decode (.packet f) = .ok i →
      step s = exec i { s with inputs := rest, draw := d, rx := tail }

/-- With no input the block is idle; the environment appends to RX and takes from the head of TX; power-on is the reset
assignment with any value in NACK_SEQ (R53, R55, R69, R219, R230, R231; log entries 4, 8, 11). That the response stays on
the port meanwhile is log entry 9's choice. -/
def Obligations.EnvironmentActsBetweenCommands : Prop :=
  ∀ s : State,
    (s.inputs = [] → step s = .next s) ∧
    (∀ bs rest, s.inputs = .arrive bs :: rest → step s = .next { s with inputs := rest, rx := s.rx ++ bs }) ∧
    (∀ n rest, s.inputs = .take n :: rest → step s = .next { s with inputs := rest, tx := s.tx.drop n }) ∧
    (∀ v rest, s.inputs = .powerOn v :: rest →
      step s = .next { s with inputs := rest, crc := 0x0000, expectedSeq := 0x0000, lastAcked := 0xFFFF,
                              nackPending := false, nackSeq := v })

/-- A command the decoder refuses ends with ILLEGAL_COMMAND and no other effect: a reserved opcode, an operand outside its
type or of the wrong kind, a wrong number of operands (R86, R90, R181, R206, R210; the spec's decisions D3 and D33). That a
PacketType travels as 1, 2 or 3, and that a wrong kind or number of operands is refused so, are log entry 5's. -/
def Obligations.IllegalCommandsHaveNoEffect : Prop :=
  ∀ (s : State) (k : Command) (d : Draw) (rest : List Input), s.inputs = .command k d :: rest →
    ((∃ e, decode (.command k) = .error e) ∨
      k.opcode = 0x00 ∨ (0x02 ≤ k.opcode ∧ k.opcode ≤ 0x0F) ∨ (0x14 ≤ k.opcode ∧ k.opcode ≤ 0x1F) ∨
      (0x23 ≤ k.opcode ∧ k.opcode ≤ 0x2F) ∨ 0x33 ≤ k.opcode ∨
      (k.opcode ∈ [0x01, 0x10, 0x13, 0x30, 0x31, (0x32 : Byte)] ∧ k.operands ≠ []) ∨
      (k.opcode = 0x11 ∧ ∀ n < 2, k.operands ≠ [.num n]) ∨
      (k.opcode = 0x12 ∧ ∀ n < 256, k.operands ≠ [.num n]) ∨
      (k.opcode = 0x21 ∧ ∀ f, k.operands ≠ [.bytes f]) ∨
      ((k.opcode = 0x20 ∨ k.opcode = 0x22) ∧
        ∀ t sq p, (t = 1 ∨ t = 2 ∨ t = 3) → sq < 65536 → k.operands ≠ [.num t, .num sq, .bytes p])) →
    step s = .next { s with inputs := rest, draw := d, response := some (.illegalCommand k.opcode) }

/-- Every command instruction, with every operand, is read back from its command record. -/
def Obligations.CommandsDecodeToThemselves : Prop :=
  ∀ (i : Instr) (k : Command), encode i = .command k → decode (.command k) = .ok i

/-- Every well-formed packet instruction, on every configuration, is read back from its `N` bytes: the residue is zero and
no field is lost (R130 to R133, R137). -/
def Obligations.PacketsDecodeToThemselves : Prop :=
  ∀ (c : Config) (i : Instr) (f : List Byte), i.wfOn c = true → encodeOn c i = .packet f →
    decodeOn c (.packet f) = .ok i

/-- What a decoder takes is well formed and is the encoding of what it gives: no two words stand for one instruction, and a
packet taken carries the very trailer R131 computes (R133: the two tests agree for every packet). -/
def Obligations.DecodedWordsAreEncodings : Prop :=
  ∀ (c : Config) (e : Encoded) (i : Instr), decodeOn c e = .ok i → i.wfOn c = true ∧ encodeOn c i = e

/-! ## The CRC unit -/

/-- CRC_BIT, R111: its word (in log entry 5's operand form), the shift with the message bit into bit 0 and the conditional
XOR of POLY, nothing else written; the bit survives in bit 0; a serialised operand other than 0 or 1, in log entry 5's form,
gives ILLEGAL_COMMAND. -/
def Obligations.CrcBitShiftsOneBit : Prop :=
  (∀ b : Bool, encode (.crcBit b) = .command ⟨0x11, [.num (if b then 1 else 0)]⟩) ∧
  (∀ (b : Bool) (s : State),
    exec (.crcBit b) s = .next { s with
      crc := (if s.crc.getLsbD 15 then ((s.crc <<< 1) ||| (if b then 1 else 0)) ^^^ 0x2110
              else (s.crc <<< 1) ||| (if b then 1 else 0)),
      response := some .ok }) ∧
  (∀ (b : Bool) (s t : State), exec (.crcBit b) s = .next t → t.crc.getLsbD 0 = b) ∧
  (∀ (s : State) (n : Nat) (d : Draw) (rest : List Input), 2 ≤ n →
    s.inputs = .command ⟨0x11, [.num n]⟩ d :: rest →
    step s = .next { s with inputs := rest, draw := d, response := some (.illegalCommand 0x11) })

/-- CRC_BYTE in the table-driven form, for this machine and, as a function, for every POLY (R112, R116). -/
def Obligations.CrcByteIsTheTableStep : Prop :=
  (∀ (v : Byte) (s : State),
    exec (.crcByte v) s = .next { s with
      crc := ((s.crc <<< 8) ||| v.setWidth 16) ^^^ crcByteStep 0x2110 (s.crc &&& 0xFF00) 0x00, response := some .ok }) ∧
  (∀ (poly r : Word) (v : Byte), crcByteStep poly r v = crcByteTable poly r v)

/-- One CRC_BYTE leaves what eight CRC_BITs leave, bit 7 first (R112, R58). -/
def Obligations.CrcByteIsEightCrcBits : Prop :=
  ∀ (s : State) (v : Byte) (d : Draw) (rest : List Input), ∃ t : State,
    Host.Core.run Sys2Proof.core 1 { s with inputs := .command ⟨0x12, [.num v.toNat]⟩ d :: rest } = .next t ∧
    Host.Core.run Sys2Proof.core 8
      { s with
        inputs := ([7, 6, 5, 4, 3, 2, 1, 0].map fun i => Input.command ⟨0x11, [.num (v.getLsbD i).toNat]⟩ d) ++ rest }
      = .next t

/-- CRC_INIT puts the initial value (the spec's decision D6) in the register; CRC_READ returns the register as it stands
(decision D7) and writes nothing (R110, R113). -/
def Obligations.CrcInitAndCrcRead : Prop :=
  ∀ s : State,
    exec .crcInit s = .next { s with crc := 0x0000, response := some .ok } ∧
    exec .crcRead s = .next { s with response := some (.okCrc s.crc) }

/-- CRC_INIT, a CRC_BYTE for each byte, then CRC_READ return `Crc(CRC_INIT, s)` (R114). -/
def Obligations.StreamingCommandsComputeCrc : Prop :=
  ∀ (s : State) (d : Draw) (bytes : List Byte) (rest : List Input),
    s.inputs = .command ⟨0x10, []⟩ d ::
      (bytes.map (fun v => Input.command ⟨0x12, [.num v.toNat]⟩ d) ++ .command ⟨0x13, []⟩ d :: rest) →
    Host.Core.run Sys2Proof.core (bytes.length + 2) s = .next { s with
      crc := crcOf 0x2110 0x0000 bytes, inputs := rest, draw := d,
      response := some (.okCrc (crcOf 0x2110 0x0000 bytes)) }

/-- The register is the remainder of polynomial division over GF(2), for every POLY, every initial value and every bit
string: `Crc(I, m) = (I(x)·x^n + M(x)) mod G(x)` with `G(x) = x^16 + P(x)` (R13, R115). -/
def Obligations.CrcIsThePolynomialRemainder : Prop :=
  ∀ (poly init : Word) (m : List Bool),
    let wordPoly : Word → Polynomial (ZMod 2) := fun w =>
      ∑ i ∈ Finset.range 16, if w.getLsbD i then Polynomial.X ^ i else 0
    let msgPoly : Polynomial (ZMod 2) :=
      ∑ i ∈ Finset.range m.length, if m.getD i false then Polynomial.X ^ (m.length - 1 - i) else 0
    wordPoly (crcBits poly init m) =
      (wordPoly init * Polynomial.X ^ m.length + msgPoly) %ₘ (Polynomial.X ^ 16 + wordPoly poly)

/-- Zero residue is the same as carrying the trailer R131 computes, for every configuration and every body: validity never
depends on which of the two tests is made (R115(b), R133). -/
def Obligations.ZeroResidueIffTrailerMatches : Prop :=
  ∀ (c : Config) (body tr : List Byte), tr.length = 2 → (residue c (body ++ tr) = 0x0000 ↔ tr = trailer c body)

/-- When POLY[3:0] = 0 the register's low nibble is the last four message bits; so every checksum has a zero low nibble,
and a residue's low nibble is that of the packet's last byte (R117). -/
def Obligations.LowNibbleIsTheLastFourBits : Prop :=
  ∀ (poly init : Word), (∀ i < 4, poly.getLsbD i = false) →
    (∀ m : List Bool, 4 ≤ m.length → ∀ i < 4, (crcBits poly init m).getLsbD i = m.getD (m.length - 1 - i) false) ∧
    (∀ (a : List Byte), ∀ i < 4, (crcOf poly init (a ++ zeros 2)).getLsbD i = false) ∧
    (∀ (a : List Byte) (v : Byte), ∀ i < 4, (crcOf poly init (a ++ [v])).getLsbD i = v.getLsbD i)

/-- The checksum of a message equals the "direct" MSB-first CRC of the message alone (R115). -/
def Obligations.ChecksumEqualsDirectForm : Prop :=
  ∀ (poly : Word) (a : List Byte),
    crcOf poly 0x0000 (a ++ zeros 2) =
      (frameBits a).foldl (fun (r : Word) (b : Bool) => if (r.getLsbD 15 ^^ b) then (r <<< 1) ^^^ poly else r <<< 1) 0x0000

/-! ## Error detection (R118), on byte strings of any length -/

/-- The residue of `f XOR e` is the residue of `f` XOR the CRC of `e` from zero (R118(c)). -/
def Obligations.ResidueIsLinearInErrors : Prop :=
  ∀ (c : Config) (f e : List Byte), e.length = f.length →
    residue c (xorBytes f e) = residue c f ^^^ crcOf c.POLY 0x0000 e

/-- Every single-bit error in a valid packet is detected, for every D and every POLY but zero (R118(a)). -/
def Obligations.SingleBitErrorsAreDetected : Prop :=
  ∀ (c : Config) (f e : List Byte) (i : Nat), c.POLY ≠ 0x0000 → validFlag c f = true → e.length = f.length →
    i < 8 * f.length → frameBits e = (List.replicate (8 * f.length) false).set i true →
    validFlag c (xorBytes f e) = false

/-- Every burst of length at most 12 in a valid packet is detected, for every D (R118(d)). -/
def Obligations.ShortBurstsAreDetected : Prop :=
  ∀ (c : Config) (f e : List Byte) (i j : Nat) (w : List Bool), c.POLY = 0x2110 → validFlag c f = true →
    e.length = f.length → frameBits e = List.replicate i false ++ w ++ List.replicate j false →
    w.length ≤ 12 → true ∈ w → validFlag c (xorBytes f e) = false

/-- A burst of length 13 is missed exactly when its pattern is 1001000010001 and it ends at least 4 bits before the end of
the packet (R118(e)). -/
def Obligations.MissedBurstsOfLengthThirteen : Prop :=
  ∀ (c : Config) (f e : List Byte) (i j : Nat) (w : List Bool), c.POLY = 0x2110 → validFlag c f = true →
    e.length = f.length → frameBits e = List.replicate i false ++ w ++ List.replicate j false →
    w.length = 13 → w.head? = some true → w.getLast? = some true →
    (validFlag c (xorBytes f e) = true ↔
      w = [true, false, false, true, false, false, false, false, true, false, false, false, true] ∧ 4 ≤ j)

/-- Every double-bit error in a valid 112-bit packet is detected (R118(b), with (c): for every valid packet). -/
def Obligations.DoubleBitErrorsAreDetected : Prop :=
  ∀ (c : Config) (f e : List Byte) (i j : Nat), c.POLY = 0x2110 → validFlag c f = true → f.length = 14 →
    e.length = 14 → i < j → j < 112 →
    frameBits e = ((List.replicate 112 false).set i true).set j true →
    validFlag c (xorBytes f e) = false

/-! ## The framer and parser -/

/-- `Encode` and `Trailer`, R130 and R131: little-endian header, payload padded with zeros, and the CRC of all that with a
zeroed trailer, high byte first; `N` bytes; for POLY = 0x2110 a zero low nibble. -/
def Obligations.EncodeLaysOutThePacket : Prop :=
  ∀ (c : Config) (t : PacketType) (sq : Word) (p : List Byte), p.length ≤ c.D →
    let tv : Byte := match t with | .ack => 0x01 | .nack => 0x02 | .data => 0x03
    let body : List Byte :=
      [tv, 0x00, sq.extractLsb' 0 8, sq.extractLsb' 8 8] ++ p ++ List.replicate (c.D - p.length) 0x00
    let sum : Word := crcOf c.POLY c.CRC_INIT (body ++ [0x00, 0x00])
    encodePacket c t sq p = body ++ [sum.extractLsb' 8 8, sum.extractLsb' 0 8] ∧
    (encodePacket c t sq p).length = 4 + c.D + 2 ∧
    (c.POLY = 0x2110 → ∀ i < 4, sum.getLsbD i = false)

/-- ENCODE returns the frame and writes nothing; a payload longer than D is a FORMAT_ERROR (R134; decision D15). -/
def Obligations.EncodeCommandReturnsTheFrame : Prop :=
  ∀ (t : PacketType) (sq : Word) (p : List Byte) (s : State),
    (p.length ≤ 8 →
      exec (.encode t sq p) s = .next { s with response := some (.okFrame (encodePacket Config.here t sq p)) }) ∧
    (8 < p.length → exec (.encode t sq p) s = .next { s with response := some .formatError })

/-- DECODE returns the raw fields and whether the residue is zero, valid or not, and writes nothing; any other length than
N is a FORMAT_ERROR (R81 to R83, R132, R133, R135; decisions D5, D15, D34). -/
def Obligations.DecodeCommandReturnsTheFields : Prop :=
  ∀ (f : List Byte) (s : State),
    (f.length = 14 →
      exec (.decode f) s = .next { s with response := some (.okDecoded
        (BitVec.ofNat 16 ((f.getD 0 0).toNat + 256 * (f.getD 1 0).toNat))
        (BitVec.ofNat 16 ((f.getD 2 0).toNat + 256 * (f.getD 3 0).toNat))
        ((f.drop 4).take 8) (decide (crcOf 0x2110 0x0000 f = 0x0000))) }) ∧
    (f.length ≠ 14 → exec (.decode f) s = .next { s with response := some .formatError })

/-- TRANSMIT appends one whole frame when the write succeeds, a strict prefix and TRANSPORT_ERROR when it fails, and nothing
when the payload is longer than D; no register is written (R55, R136; decisions D14, D15; the draw is log entry 3's). -/
def Obligations.TransmitWritesOnePacket : Prop :=
  ∀ (t : PacketType) (sq : Word) (p : List Byte) (s : State),
    (8 < p.length → exec (.transmit t sq p) s = .next { s with response := some .formatError }) ∧
    (p.length ≤ 8 → s.draw.write = none →
      exec (.transmit t sq p) s = .next { s with
        tx := s.tx ++ encodePacket Config.here t sq p, response := some .ok }) ∧
    (∀ j, p.length ≤ 8 → s.draw.write = some j →
      exec (.transmit t sq p) s = .next { s with
        tx := s.tx ++ (encodePacket Config.here t sq p).take (min j 13),
        response := some (.transportError none) })

/-- DECODE of an encoded packet gives back the type's wire value, the sequence and the padded payload, valid (R137). -/
def Obligations.DecodeOfEncodeIsValid : Prop :=
  ∀ (t : PacketType) (sq : Word) (p : List Byte) (s : State), p.length ≤ 8 →
    exec (.decode (encodePacket Config.here t sq p)) s = .next { s with response := some (.okDecoded
      (match t with | .ack => 0x0001 | .nack => 0x0002 | .data => 0x0003) sq
      (p ++ List.replicate (8 - p.length) 0x00) true) }

/-- Two packets are the same bytes exactly when type, sequence and padded payload agree: `Encode` is injective up to
padding (R137), and padding cannot be told from payload zeros (R138). -/
def Obligations.EncodedPacketsAgreeIffFieldsAgree : Prop :=
  ∀ (c : Config) (t t' : PacketType) (sq sq' : Word) (p p' : List Byte), p.length ≤ c.D → p'.length ≤ c.D →
    (encodePacket c t sq p = encodePacket c t' sq' p' ↔
      t = t' ∧ sq = sq' ∧
        p ++ List.replicate (c.D - p.length) 0x00 = p' ++ List.replicate (c.D - p'.length) 0x00)

/-- The all-zero packet is valid for every D when CRC_INIT is zero, and every packet with any 16-bit type value and its
matching trailer is valid (R139). -/
def Obligations.ValidityDoesNotDependOnType : Prop :=
  (∀ c : Config, c.CRC_INIT = 0x0000 → validFlag c (zeros c.N) = true) ∧
  (∀ (c : Config) (ty sq : Word) (p : List Byte), p.length ≤ c.D →
    validFlag c (frameOf c ty sq p) = true ∧ typeField (frameOf c ty sq p) = ty)

/-! ## RECEIVE and the packet types -/

/-- With fewer than N bytes on RX, RECEIVE is NO_PACKET and consumes nothing; a short read of `k` bytes consumes them, raises
TRANSPORT_ERROR recording `k`, and writes no register (R151; decision D13; the draw is log entry 3's). -/
def Obligations.ReceiveIntake : Prop :=
  ∀ s : State,
    (s.rx.length < 14 → exec .receive s = .next { s with response := some .noPacket }) ∧
    (14 ≤ s.rx.length → s.draw.read < 14 →
      exec .receive s = .next { s with
        rx := s.rx.drop s.draw.read, response := some (.transportError (some s.draw.read)) })

/-- CHECKSUM_ERROR has one cause, RECEIVE reading N bytes whose residue is nonzero; it consumes them and nothing else
happens; DECODE reports the same condition as `valid = false` (R203). -/
def Obligations.ChecksumErrorHasOneCause : Prop :=
  (∀ (i : Instr) (s t : State), exec i s = .next t →
    (t.response = some .checksumError ↔
      i = .receive ∧ 14 ≤ s.rx.length ∧ 14 ≤ s.draw.read ∧ residue Config.here (s.rx.take 14) ≠ 0x0000)) ∧
  (∀ s : State, 14 ≤ s.rx.length → 14 ≤ s.draw.read → residue Config.here (s.rx.take 14) ≠ 0x0000 →
    exec .receive s = .next { s with rx := s.rx.drop 14, response := some .checksumError }) ∧
  (∀ (f : List Byte) (s : State), f.length = 14 → residue Config.here f ≠ 0x0000 →
    ∃ ty sq pl, exec (.decode f) s = .next { s with response := some (.okDecoded ty sq pl false) })

/-- Ack, R154: LAST_ACKED takes the sequence, unconditionally; the payload is ignored, nothing is sent or delivered. Said of
the packet type and of the RECEIVE that finds a valid packet of it. -/
def Obligations.AckSetsLastAcked : Prop :=
  (∀ (sq : Word) (pl : List Byte) (s : State),
    exec (.ack sq pl) s = .next { s with lastAcked := sq, response := some (.ackSeen sq) }) ∧
  (∀ s : State, 14 ≤ s.rx.length → 14 ≤ s.draw.read → residue Config.here (s.rx.take 14) = 0x0000 →
    typeField s.rx = 0x0001 →
    exec .receive s = .next { s with
      rx := s.rx.drop 14, lastAcked := seqField s.rx, response := some (.ackSeen (seqField s.rx)) })

/-- Nack, R155: NACK_PENDING and NACK_SEQ are set, unconditionally; the payload is ignored, nothing is sent or delivered. -/
def Obligations.NackSetsPendingNack : Prop :=
  (∀ (sq : Word) (pl : List Byte) (s : State),
    exec (.nack sq pl) s = .next { s with nackPending := true, nackSeq := sq, response := some (.nackSeen sq) }) ∧
  (∀ s : State, 14 ≤ s.rx.length → 14 ≤ s.draw.read → residue Config.here (s.rx.take 14) = 0x0000 →
    typeField s.rx = 0x0002 →
    exec .receive s = .next { s with
      rx := s.rx.drop 14, nackPending := true, nackSeq := seqField s.rx,
      response := some (.nackSeen (seqField s.rx)) })

/-- An in-order Data packet: EXPECTED_SEQ advances by one modulo 65536, all D payload bytes go to slot `sequence mod B`, and
an Ack of its own sequence is emitted, whole when the write succeeds and a strict prefix of it when it fails; a failed write
changes only TX and `tx_ok` (R12, R156, R157, R158, R140; decisions D12, D14, D23). -/
def Obligations.InOrderDataIsAccepted : Prop :=
  ∀ s : State, ∀ ok : Bool, ∀ w : List Byte,
    ((s.draw.write = none ∧ ok = true ∧ w = encodePacket Config.here .ack s.expectedSeq []) ∨
      (∃ j, s.draw.write = some j ∧ ok = false ∧
        w = (encodePacket Config.here .ack s.expectedSeq []).take (min j 13))) →
    (∀ pl : List Byte,
      exec (.data s.expectedSeq pl) s = .next { s with
        expectedSeq := s.expectedSeq + 1,
        delivered := s.delivered ++ [⟨s.expectedSeq.toNat % Config.here.B, pl⟩],
        tx := s.tx ++ w,
        response := some (.dataAccepted s.expectedSeq (s.expectedSeq.toNat % Config.here.B) ok) }) ∧
    (14 ≤ s.rx.length → 14 ≤ s.draw.read → residue Config.here (s.rx.take 14) = 0x0000 →
      typeField s.rx = 0x0003 → seqField s.rx = s.expectedSeq →
      exec .receive s = .next { s with
        rx := s.rx.drop 14,
        expectedSeq := s.expectedSeq + 1,
        delivered := s.delivered ++ [⟨s.expectedSeq.toNat % Config.here.B, (s.rx.drop 4).take 8⟩],
        tx := s.tx ++ w,
        response := some (.dataAccepted s.expectedSeq (s.expectedSeq.toNat % Config.here.B) ok) })

/-- Any other Data packet, a duplicate included, changes no register and delivers nothing; a Nack names EXPECTED_SEQ (R159,
R140; decisions D12, D14). -/
def Obligations.OutOfOrderDataIsNacked : Prop :=
  ∀ s : State, ∀ ok : Bool, ∀ w : List Byte,
    ((s.draw.write = none ∧ ok = true ∧ w = encodePacket Config.here .nack s.expectedSeq []) ∨
      (∃ j, s.draw.write = some j ∧ ok = false ∧
        w = (encodePacket Config.here .nack s.expectedSeq []).take (min j 13))) →
    (∀ (sq : Word) (pl : List Byte), sq ≠ s.expectedSeq →
      exec (.data sq pl) s = .next { s with
        tx := s.tx ++ w, response := some (.dataOutOfOrder sq s.expectedSeq ok) }) ∧
    (14 ≤ s.rx.length → 14 ≤ s.draw.read → residue Config.here (s.rx.take 14) = 0x0000 →
      typeField s.rx = 0x0003 → seqField s.rx ≠ s.expectedSeq →
      exec .receive s = .next { s with
        rx := s.rx.drop 14, tx := s.tx ++ w,
        response := some (.dataOutOfOrder (seqField s.rx) s.expectedSeq ok) })

/-- A valid packet of a reserved type is consumed and dropped with UNKNOWN_TYPE (R88, R160; decision D11). -/
def Obligations.ReservedTypeIsDropped : Prop :=
  ∀ s : State, 14 ≤ s.rx.length → 14 ≤ s.draw.read → residue Config.here (s.rx.take 14) = 0x0000 →
    (typeField s.rx = 0x0000 ∨ 0x0004 ≤ typeField s.rx) →
    exec .receive s = .next { s with
      rx := s.rx.drop 14, response := some (.unknownType (typeField s.rx) (seqField s.rx)) }

/-- The order of conditions inside RECEIVE, R209: NO_PACKET, then a short read, then a nonzero residue, then the type; a
failed write never replaces the outcome of type dispatch. The numeric codes are R201's (the spec's decision D4), and which
type and sequence give which outcome is R150's and R153's. -/
def Obligations.ReceiveConditionsInOrder : Prop :=
  ∀ s : State, ∃ t r, exec .receive s = .next t ∧ t.response = some r ∧
    r.code =
      (if s.rx.length < 14 then 0x01
       else if s.draw.read < 14 then 0x82
       else if residue Config.here (s.rx.take 14) ≠ 0x0000 then 0x81
       else if typeField s.rx = 0x0001 then 0x02
       else if typeField s.rx = 0x0002 then 0x03
       else if typeField s.rx = 0x0003 then (if seqField s.rx = s.expectedSeq then 0x04 else 0x05)
       else 0x06)

/-- R161's table, its class, fields and three effect columns for every outcome: the RX bytes consumed, what is written to TX
(whole when `tx_ok`, else a strict prefix) and the registers written, all others being unchanged (decision D24). -/
def Obligations.ReceiveConsumesByOutcome : Prop :=
  ∀ s t : State, exec .receive s = .next t → ∃ r w, t.response = some r ∧ t.tx = s.tx ++ w ∧
    ((r = .noPacket ∧ r.handled = some false ∧ t.rx = s.rx ∧ w = [] ∧ s.sameRegisters t) ∨
     (∃ k, r = .transportError (some k) ∧ r.handled = some false ∧ k < 14 ∧ k ≤ s.rx.length ∧ t.rx = s.rx.drop k ∧
       w = [] ∧ s.sameRegisters t) ∨
     (r.handled = some true ∧ 14 ≤ s.rx.length ∧ t.rx = s.rx.drop 14 ∧
       ((r = .checksumError ∧ w = [] ∧ s.sameRegisters t) ∨
        (∃ sq, r = .ackSeen sq ∧ w = [] ∧ State.sameRegisters { s with lastAcked := sq } t) ∨
        (∃ sq, r = .nackSeen sq ∧ w = [] ∧ State.sameRegisters { s with nackPending := true, nackSeq := sq } t) ∨
        (∃ sq slot ok, r = .dataAccepted sq slot ok ∧ sq = s.expectedSeq ∧
          w <+: encodePacket Config.here .ack sq [] ∧ (ok = true ↔ w = encodePacket Config.here .ack sq []) ∧
          State.sameRegisters { s with expectedSeq := sq + 1 } t) ∨
        (∃ sq e ok, r = .dataOutOfOrder sq e ok ∧ e = s.expectedSeq ∧ sq ≠ e ∧
          w <+: encodePacket Config.here .nack e [] ∧ (ok = true ↔ w = encodePacket Config.here .nack e []) ∧
          s.sameRegisters t) ∨
        (∃ ty sq, r = .unknownType ty sq ∧ w = [] ∧ s.sameRegisters t))))

/-- In-order streams, R162: `n` RECEIVEs on RX holding Data packets with sequences `e, e+1, …` accept all of them, deliver
them in order exactly once each, and put their Acks on TX in order, whatever follows on RX. -/
def Obligations.InOrderStreamIsDelivered : Prop :=
  ∀ (s : State) (d : Draw) (n : Nat) (p : Nat → List Byte) (rest : List Input) (tail : List Byte),
    14 ≤ d.read → d.write = none → (∀ k < n, (p k).length ≤ 8) →
    s.inputs = List.replicate n (.command ⟨0x30, []⟩ d) ++ rest →
    s.rx = (List.range n).flatMap
        (fun k => encodePacket Config.here .data (s.expectedSeq + BitVec.ofNat 16 k) (p k)) ++ tail →
    ∃ t : State, Host.Core.run Sys2Proof.core n s = .next t ∧
      t.expectedSeq = s.expectedSeq + BitVec.ofNat 16 n ∧
      t.delivered = s.delivered ++ (List.range n).map (fun k =>
        ⟨(s.expectedSeq + BitVec.ofNat 16 k).toNat % Config.here.B,
          p k ++ List.replicate (8 - (p k).length) 0x00⟩) ∧
      t.tx = s.tx ++ (List.range n).flatMap
        (fun k => encodePacket Config.here .ack (s.expectedSeq + BitVec.ofNat 16 k) []) ∧
      t.rx = tail ∧ t.inputs = rest ∧ t.crc = s.crc ∧ t.lastAcked = s.lastAcked ∧
      t.nackPending = s.nackPending ∧ t.nackSeq = s.nackSeq

/-- The source's out-of-order example (R163, V65): with EXPECTED_SEQ = 0, Data(2, "XY") gives Nack(0), no delivery, and
EXPECTED_SEQ still 0. -/
def Obligations.SequenceTwoBeforeZeroIsNacked : Prop :=
  ∀ s : State, s.expectedSeq = 0x0000 → 14 ≤ s.draw.read → s.draw.write = none →
    s.rx = [0x03, 0x00, 0x02, 0x00, 0x58, 0x59, 0x00, 0x00, 0x00, 0x00, 0x00, 0x00, 0x8C, 0x40] →
    exec .receive s = .next { s with
      rx := [],
      tx := s.tx ++ [0x02, 0x00, 0x00, 0x00, 0x00, 0x00, 0x00, 0x00, 0x00, 0x00, 0x00, 0x00, 0x5E, 0x90],
      response := some (.dataOutOfOrder 0x0002 0x0000 true) }

/-- One exchange between two ends (W5, R215): what the sender's TRANSMIT puts on TX, arriving at a receiver that expects
that sequence, is accepted and delivered, and what the receiver then puts on TX, arriving back, sets the sender's
LAST_ACKED. -/
def Obligations.DataIsDeliveredAndAcknowledged : Prop :=
  ∀ (a b : State) (sq : Word) (p : List Byte), p.length ≤ 8 →
    a.draw.write = none → 14 ≤ a.draw.read → b.draw.write = none → 14 ≤ b.draw.read →
    a.rx = [] → b.rx = [] → b.expectedSeq = sq →
    ∃ (a₁ b₁ a₂ : State) (there back : List Byte),
      exec (.transmit .data sq p) a = .next a₁ ∧ a₁.tx = a.tx ++ there ∧
      exec .receive { b with rx := there } = .next b₁ ∧
      b₁.delivered = b.delivered ++ [⟨sq.toNat % Config.here.B, p ++ List.replicate (8 - p.length) 0x00⟩] ∧
      b₁.expectedSeq = sq + 1 ∧ b₁.rx = [] ∧ b₁.tx = b.tx ++ back ∧
      exec .receive { a₁ with rx := back } = .next a₂ ∧
      a₂ = { a₁ with rx := [], lastAcked := sq, response := some (.ackSeen sq) }

/-- Of two Nacks only the latest is kept, and of two Acks the latest sequence stands, even a lower one (R155, R154, R239,
R240; conflict C6), as READ_STATUS then reports. -/
def Obligations.LatestAckAndNackStand : Prop :=
  ∀ (s : State) (d : Draw) (x y : Word) (p q : List Byte) (rest : List Input),
    14 ≤ d.read → p.length ≤ 8 → q.length ≤ 8 →
    s.inputs = [.command ⟨0x30, []⟩ d, .command ⟨0x30, []⟩ d, .command ⟨0x31, []⟩ d] ++ rest →
    (s.rx = encodePacket Config.here .nack x p ++ encodePacket Config.here .nack y q →
      ∃ t : State, Host.Core.run Sys2Proof.core 3 s = .next t ∧
        t.response = some (.okStatus s.expectedSeq s.lastAcked (some y))) ∧
    (s.rx = encodePacket Config.here .ack x p ++ encodePacket Config.here .ack y q →
      ∃ t : State, Host.Core.run Sys2Proof.core 3 s = .next t ∧
        t.response = some (.okStatus s.expectedSeq y (if s.nackPending then some s.nackSeq else none)))

/-! ## Control and status -/

/-- RESET puts the reset values in the registers, keeps NACK_SEQ (log entry 8), and touches no channel, delivery or other
state (R180, R231; decision D17). -/
def Obligations.ResetAssignsRegisters : Prop :=
  ∀ s : State, exec .reset s = .next { s with
    crc := 0x0000, expectedSeq := 0x0000, lastAcked := 0xFFFF, nackPending := false, response := some .ok }

/-- READ_STATUS returns the status registers, the NACK only while pending, and writes none (R27, R182; decision D25). -/
def Obligations.ReadStatusReportsRegisters : Prop :=
  ∀ s : State, exec .readStatus s = .next { s with
    response := some (.okStatus s.expectedSeq s.lastAcked (if s.nackPending then some s.nackSeq else none)) }

/-- CLEAR_NACK clears NACK_PENDING and nothing else (R183; decision D3). -/
def Obligations.ClearNackClearsPending : Prop :=
  ∀ s : State, exec .clearNack s = .next { s with nackPending := false, response := some .ok }

/-- The state right after reset holds the register values of R230 (decision D17), and READ_STATUS on it returns them (V81).
What the other fields hold is the model's choice (log entries 3, 4, 8, 9, 10) and not stated. -/
def Obligations.ResetStateHoldsResetValues : Prop :=
  State.reset.crc = 0x0000 ∧ State.reset.expectedSeq = 0x0000 ∧ State.reset.lastAcked = 0xFFFF ∧
  State.reset.nackPending = false ∧
  exec .readStatus State.reset = .next { State.reset with response := some (.okStatus 0x0000 0xFFFF none) }

/-! ## The whole machine -/

/-- Every instruction, in every state, completes in one transition and answers with one response (R200, R214, R247). -/
def Obligations.EveryInstructionResponds : Prop :=
  ∀ (i : Instr) (s : State), ∃ t r, exec i s = .next t ∧ t.response = some r

/-- The codes of R201 (decision D4), and that the errors are the codes from 0x80 on. -/
def Obligations.ResultCodesAndErrors : Prop :=
  (∀ a b c d e f g, Response.code .ok = 0x00 ∧ Response.code (.okCrc a) = 0x00 ∧ Response.code (.okFrame b) = 0x00 ∧
    Response.code (.okDecoded a c b d) = 0x00 ∧ Response.code (.okStatus a c e) = 0x00 ∧
    Response.code .noPacket = 0x01 ∧ Response.code (.ackSeen a) = 0x02 ∧ Response.code (.nackSeen a) = 0x03 ∧
    Response.code (.dataAccepted a f d) = 0x04 ∧ Response.code (.dataOutOfOrder a c d) = 0x05 ∧
    Response.code (.unknownType a c) = 0x06 ∧ Response.code .formatError = 0x80 ∧
    Response.code .checksumError = 0x81 ∧ Response.code (.transportError g) = 0x82 ∧
    ∀ op, Response.code (.illegalCommand op) = 0x83) ∧
  (∀ r : Response, r.isError = true ↔ 0x80 ≤ r.code)

/-- The writers of each register are those R20 lists, over all instructions (the packet types are RECEIVE's). -/
def Obligations.RegistersHaveTheirWriters : Prop :=
  ∀ (i : Instr) (s t : State), exec i s = .next t →
    (t.crc ≠ s.crc → i = .reset ∨ i = .crcInit ∨ (∃ b, i = .crcBit b) ∨ ∃ v, i = .crcByte v) ∧
    (t.expectedSeq ≠ s.expectedSeq → i = .reset ∨ i = .receive ∨ ∃ sq pl, i = .data sq pl) ∧
    (t.lastAcked ≠ s.lastAcked → i = .reset ∨ i = .receive ∨ ∃ sq pl, i = .ack sq pl) ∧
    (t.nackPending ≠ s.nackPending →
      i = .reset ∨ i = .clearNack ∨ i = .receive ∨ ∃ sq pl, i = .nack sq pl) ∧
    (t.nackSeq ≠ s.nackSeq → i = .receive ∨ ∃ sq pl, i = .nack sq pl)

/-- Errors are precise, R205: a command that ends with an error writes no register and delivers nothing; only RECEIVE has
then consumed RX bytes, and only TRANSMIT has then put bytes on TX, a strict prefix of its packet. -/
def Obligations.ErrorsArePrecise : Prop :=
  ∀ (i : Instr) (s t : State) (r : Response), exec i s = .next t → t.response = some r → r.isError = true →
    s.sameRegisters t ∧ t.delivered = s.delivered ∧
    (i ≠ .receive → t.rx = s.rx) ∧ (∃ k ≤ 14, t.rx = s.rx.drop k) ∧
    (t.tx = s.tx ∨ ∃ ty sq p w, i = .transmit ty sq p ∧ t.tx = s.tx ++ w ∧
      w <+: encodePacket Config.here ty sq p ∧ w ≠ encodePacket Config.here ty sq p)

/-- TX is only appended to: by nothing, or by one packet, whole when the write succeeds and a strict prefix when it fails
(R55, R60, R64, R244). -/
def Obligations.TxGainsAtMostOnePacket : Prop :=
  ∀ (i : Instr) (s t : State), exec i s = .next t → ∃ w, t.tx = s.tx ++ w ∧
    (w = [] ∨ ∃ ty sq p, p.length ≤ 8 ∧
      (s.draw.write = none → w = encodePacket Config.here ty sq p) ∧
      (s.draw.write ≠ none → w <+: encodePacket Config.here ty sq p ∧ w ≠ encodePacket Config.here ty sq p))

/-- The commands R61 calls free of side effects change only the response; no command but RECEIVE takes from RX, and only
TRANSMIT, RECEIVE and the Data packet it may run write to TX (R60, R61). -/
def Obligations.ChannelsAreTouchedOnlyAsListed : Prop :=
  ∀ (i : Instr) (s t : State), exec i s = .next t →
    ((∃ ty sq p, i = .encode ty sq p) ∨ (∃ f, i = .decode f) ∨ i = .crcRead ∨ i = .readStatus →
      t = { s with response := t.response }) ∧
    (t.rx ≠ s.rx → i = .receive) ∧
    (t.tx ≠ s.tx → i = .receive ∨ (∃ ty sq p, i = .transmit ty sq p) ∨ ∃ sq pl, i = .data sq pl) ∧
    (t.delivered ≠ s.delivered → i = .receive ∨ ∃ sq pl, i = .data sq pl) ∧
    t.inputs = s.inputs ∧ t.draw = s.draw

/-- Exactly one delivery for each acceptance: an instruction either leaves the delivery port alone, or adds one record, in
the slot of the old EXPECTED_SEQ, and advances EXPECTED_SEQ by one (R156, R157); and RECEIVE moves EXPECTED_SEQ no other
way. -/
def Obligations.OneDeliveryPerAcceptedPacket : Prop :=
  ∀ (i : Instr) (s t : State), exec i s = .next t →
    ((t.delivered = s.delivered ∧ (i = .receive → t.expectedSeq = s.expectedSeq)) ∨
     (∃ pl, t.delivered = s.delivered ++ [⟨s.expectedSeq.toNat % Config.here.B, pl⟩] ∧
       t.expectedSeq = s.expectedSeq + 1 ∧ (i = .receive → pl.length = 8)))

/-- RECEIVE looks at no RX byte beyond the first N: whatever follows stays, in place, and changes nothing. There is no hunt
for a packet boundary (R29, R151, R235). -/
def Obligations.ReceiveReadsOnlyTheHead : Prop :=
  ∀ (s t : State) (extra : List Byte), 14 ≤ s.rx.length → exec .receive s = .next t →
    exec .receive { s with rx := s.rx ++ extra } = .next { t with rx := t.rx ++ extra }

/-- Packet and control commands but RESET neither read nor write the streaming CRC register, so a stream may run across them
(R22, R241; decision D16). RESET writes it (ResetAssignsRegisters). -/
def Obligations.PacketCommandsIgnoreCrc : Prop :=
  ∀ (i : Instr) (s t : State) (v : Word), i ≠ .reset → i ≠ .crcInit → (∀ b, i ≠ .crcBit b) → (∀ x, i ≠ .crcByte x) →
    i ≠ .crcRead → exec i s = .next t →
    t.crc = s.crc ∧ exec i { s with crc := v } = .next { t with crc := v }

/-- NACK_SEQ while NACK_PENDING = 0 cannot be observed: two states that differ in nothing else step to states that differ
in nothing else (R30; 93_implementation_defined.md I3). -/
def Obligations.HiddenNackSeqIsUnobservable : Prop :=
  ∀ s s' : State, s.eraseHidden = s'.eraseHidden →
    ∃ t t' : State, step s = .next t ∧ step s' = .next t' ∧ t.eraseHidden = t'.eraseHidden

/-- At reset every record delivered and the response are well formed (Safety.lean; there are none, log entries 9, 10). -/
def Obligations.WellFormednessHoldsAtReset : Prop := State.reset.Inv

/-- Every step keeps it, on this machine and on every instance with `D >= 1` and `B >= 1`: every delivery has a slot below B
and D bytes (R56), and every response has the fields its rule allows: ENCODE's frame is N bytes with zero residue (R130,
R133), an accepted packet's slot is its sequence mod B (R157), an out-of-order sequence is not the expected one (R159), an
unknown type is reserved (R88, R160), a short read is shorter than N (R204). -/
def Obligations.WellFormednessIsKept : Prop :=
  (∀ s t : State, s.Inv → step s = .next t → t.Inv) ∧
  (∀ c : Config, c.wf → ∀ s t : State, s.InvOn c → stepOn c s = .next t → t.InvOn c)

/-! ## Every instance (10_state.md R20: the parameters are arguments of the step) -/

/-- This machine is the instance `Config.here` (log entry 2), and on every instance a step with a command the decoder takes
runs that instruction with the instance's parameters (R20). -/
def Obligations.StepIsTheDefaultInstance : Prop :=
  (∀ (i : Instr) (s : State), exec i s = execOn Config.here i s) ∧
  (∀ s : State, step s = stepOn Config.here s) ∧
  (∀ (c : Config) (s : State) (k : Command) (d : Draw) (rest : List Input) (i : Instr),
    s.inputs = .command k d :: rest → decodeOn c (.command k) = .ok i →
      stepOn c s = execOn c i { s with inputs := rest, draw := d })

/-- Each parameter has its effect on every instance: CRC_INIT in CRC_INIT and RESET, POLY in CRC_BIT and CRC_BYTE, D in the
lengths ENCODE, TRANSMIT, DECODE and RECEIVE check, and D, POLY, CRC_INIT and B in an accepted packet (R5 to R9, R20). -/
def Obligations.InstancesUseTheirParameters : Prop :=
  ∀ (c : Config) (s : State),
    execOn c .crcInit s = .next { s with crc := c.CRC_INIT, response := some .ok } ∧
    execOn c .reset s = .next { s with
      crc := c.CRC_INIT, expectedSeq := 0x0000, lastAcked := 0xFFFF, nackPending := false, response := some .ok } ∧
    (∀ b : Bool, execOn c (.crcBit b) s = .next { s with
      crc := (if s.crc.getLsbD 15 then ((s.crc <<< 1) ||| (if b then 1 else 0)) ^^^ c.POLY
              else (s.crc <<< 1) ||| (if b then 1 else 0)),
      response := some .ok }) ∧
    (∀ v : Byte, execOn c (.crcByte v) s = .next { s with
      crc := crcByteTable c.POLY s.crc v, response := some .ok }) ∧
    (∀ (t : PacketType) (sq : Word) (p : List Byte),
      (p.length ≤ c.D →
        execOn c (.encode t sq p) s = .next { s with response := some (.okFrame (encodePacket c t sq p)) } ∧
        (s.draw.write = none → execOn c (.transmit t sq p) s = .next { s with
          tx := s.tx ++ encodePacket c t sq p, response := some .ok })) ∧
      (c.D < p.length →
        execOn c (.encode t sq p) s = .next { s with response := some .formatError } ∧
        execOn c (.transmit t sq p) s = .next { s with response := some .formatError })) ∧
    (∀ f : List Byte,
      (f.length = 4 + c.D + 2 → execOn c (.decode f) s = .next { s with response := some (.okDecoded
        (typeField f) (seqField f) ((f.drop 4).take c.D) (decide (crcOf c.POLY c.CRC_INIT f = 0x0000))) }) ∧
      (f.length ≠ 4 + c.D + 2 → execOn c (.decode f) s = .next { s with response := some .formatError })) ∧
    (s.rx.length < 4 + c.D + 2 → execOn c .receive s = .next { s with response := some .noPacket }) ∧
    (4 + c.D + 2 ≤ s.rx.length → 4 + c.D + 2 ≤ s.draw.read → s.draw.write = none →
      crcOf c.POLY c.CRC_INIT (s.rx.take (4 + c.D + 2)) = 0x0000 →
      typeField s.rx = 0x0003 → seqField s.rx = s.expectedSeq →
      execOn c .receive s = .next { s with
        rx := s.rx.drop (4 + c.D + 2),
        expectedSeq := s.expectedSeq + 1,
        delivered := s.delivered ++ [⟨s.expectedSeq.toNat % c.B, (s.rx.drop 4).take c.D⟩],
        tx := s.tx ++ encodePacket c .ack s.expectedSeq [],
        response := some (.dataAccepted s.expectedSeq (s.expectedSeq.toNat % c.B) true) })
end

