-- ==== Sys2Proof/Laws/Crc.lean ====
section
/-! SUPPORT. Small laws of the CRC computation and of the byte orders. -/

namespace Sys2Proof

/-! ### Byte orders -/

theorem getLsbD_wordOf (hi lo : Byte) (i : Nat) :
    (wordOf hi lo).getLsbD i = if i < 8 then lo.getLsbD i else hi.getLsbD (i - 8) := by
  simp only [wordOf, BitVec.getLsbD_or, BitVec.getLsbD_shiftLeft, BitVec.getLsbD_setWidth]
  by_cases h : i < 8
  · simp [h]; omega
  · have hlo : lo.getLsbD i = false := BitVec.getLsbD_of_ge _ _ (by omega)
    by_cases h16 : i < 16
    · simp [h, hlo, h16, show i - 8 < 16 by omega]
    · have hhi : hi.getLsbD (i - 8) = false := BitVec.getLsbD_of_ge _ _ (by omega)
      simp [h, hlo, hhi]

@[simp] theorem loByte_wordOf (hi lo : Byte) : loByte (wordOf hi lo) = lo := by
  apply BitVec.eq_of_getLsbD_eq
  intro i h
  simp [loByte, getLsbD_wordOf, h]

@[simp] theorem hiByte_wordOf (hi lo : Byte) : hiByte (wordOf hi lo) = hi := by
  apply BitVec.eq_of_getLsbD_eq
  intro i h
  simp [hiByte, getLsbD_wordOf, h]

@[simp] theorem wordOf_hi_lo (v : Word) : wordOf (hiByte v) (loByte v) = v := by
  apply BitVec.eq_of_getLsbD_eq
  intro i h
  rw [getLsbD_wordOf]
  split
  · simp [loByte, *]
  · simp [hiByte, show i - 8 < 8 by omega, show 8 + (i - 8) = i by omega]

@[simp] theorem littleEndian_length (v : Word) : (littleEndian v).length = 2 := rfl
@[simp] theorem bigEndian_length (v : Word) : (bigEndian v).length = 2 := rfl

theorem packetTypeOfNum_numOf (t : PacketType) : packetTypeOfNum (numOfPacketType t) = some t := by
  cases t <;> rfl

theorem numOf_packetTypeOfNum {n : Nat} {t : PacketType} (h : packetTypeOfNum n = some t) :
    numOfPacketType t = n := by
  unfold packetTypeOfNum at h
  split at h <;> cases h <;> rfl

/-! ### The CRC over lists -/

@[simp] theorem crcBits_nil (poly r : Word) : crcBits poly r [] = r := rfl

@[simp] theorem crcBits_cons (poly r : Word) (b : Bool) (bs : List Bool) :
    crcBits poly r (b :: bs) = crcBits poly (crcBitStep poly r b) bs := rfl

theorem crcBits_append (poly r : Word) (as bs : List Bool) :
    crcBits poly r (as ++ bs) = crcBits poly (crcBits poly r as) bs := by
  simp [crcBits, List.foldl_append]

@[simp] theorem crcOf_nil (poly r : Word) : crcOf poly r [] = r := rfl

@[simp] theorem crcOf_cons (poly r : Word) (v : Byte) (s : List Byte) :
    crcOf poly r (v :: s) = crcOf poly (crcByteStep poly r v) s := rfl

theorem crcOf_append (poly r : Word) (s u : List Byte) :
    crcOf poly r (s ++ u) = crcOf poly (crcOf poly r s) u := by
  simp [crcOf, List.foldl_append]

/-- The CRC of a byte string is the CRC of its bits, bit 7 of each byte first. -/
theorem crcOf_eq_crcBits (poly r : Word) (s : List Byte) : crcOf poly r s = crcBits poly r (s.flatMap bitsOf) := by
  induction s generalizing r with
  | nil => rfl
  | cons v s ih => rw [crcOf_cons, ih, List.flatMap_cons, crcBits_append]; rfl

@[simp] theorem bitsOf_length (v : Byte) : (bitsOf v).length = 8 := rfl

/-! ### Linearity over GF(2) (40_crc.md R115) -/

/-- One step is linear in the register and the message bit together. -/
theorem crcBitStep_xor (poly r r' : Word) (b b' : Bool) :
    crcBitStep poly (r ^^^ r') (b ^^ b') = crcBitStep poly r b ^^^ crcBitStep poly r' b' := by
  have hs : (r ^^^ r').shiftConcat (b ^^ b') = r.shiftConcat b ^^^ r'.shiftConcat b' := by
    apply BitVec.eq_of_getLsbD_eq
    intro i hi
    simp only [BitVec.getLsbD_shiftConcat, BitVec.getLsbD_xor]
    by_cases h : i = 0 <;> simp [h]
    by_cases h2 : i < 16 <;> simp [h2]
  unfold crcBitStep
  rw [hs, BitVec.getLsbD_xor]
  apply BitVec.eq_of_getLsbD_eq
  intro i hi
  cases r.getLsbD 15 <;> cases r'.getLsbD 15 <;>
    simp only [Bool.xor_false, Bool.false_xor, Bool.xor_self, if_true, if_false, BitVec.getLsbD_xor,
      Bool.false_eq_true] <;>
    cases (r.shiftConcat b).getLsbD i <;> cases (r'.shiftConcat b').getLsbD i <;> cases poly.getLsbD i <;> rfl

/-- So is a run of them. -/
theorem crcBits_xor (poly : Word) (as bs : List Bool) (h : as.length = bs.length) (r r' : Word) :
    crcBits poly (r ^^^ r') (List.zipWith xor as bs) = crcBits poly r as ^^^ crcBits poly r' bs := by
  induction as generalizing bs r r' with
  | nil => cases bs <;> simp at h ⊢
  | cons a as ih => cases bs with
    | nil => simp at h
    | cons b bs => simp at h; simp [crcBitStep_xor, ih bs h]

theorem bitsOf_xor (v w : Byte) : bitsOf (v ^^^ w) = List.zipWith xor (bitsOf v) (bitsOf w) := by
  simp [bitsOf]

end Sys2Proof
end

