-- ==== Sys2Proof/Laws/Packet.lean ====
section
/-! SUPPORT. Lengths and fields of packets (41_framer.md R130 to R132). -/

namespace Sys2Proof

@[simp] theorem trailer_length (c : Config) (body : List Byte) : (trailer c body).length = 2 := rfl

theorem padded_length {c : Config} {p : List Byte} (h : p.length ≤ c.D) : (padded c p).length = c.D := by
  simp [padded]; omega

theorem padded_of_length {c : Config} {p : List Byte} (h : p.length = c.D) : padded c p = p := by
  simp [padded, h]

theorem packetBody_length {c : Config} {ty sq : Word} {p : List Byte} (h : p.length ≤ c.D) :
    (packetBody c ty sq p).length = 4 + c.D := by
  simp [packetBody, padded_length h]; omega

theorem frameOf_length {c : Config} {ty sq : Word} {p : List Byte} (h : p.length ≤ c.D) :
    (frameOf c ty sq p).length = c.N := by
  simp [frameOf, packetBody_length h, Config.N]

theorem encodePacket_length {c : Config} {t : PacketType} {sq : Word} {p : List Byte} (h : p.length ≤ c.D) :
    (encodePacket c t sq p).length = c.N := frameOf_length h

@[simp] theorem typeField_frameOf (c : Config) (ty sq : Word) (p : List Byte) : typeField (frameOf c ty sq p) = ty := by
  simp [typeField, frameOf, packetBody, littleEndian, byteAt]

@[simp] theorem seqField_frameOf (c : Config) (ty sq : Word) (p : List Byte) : seqField (frameOf c ty sq p) = sq := by
  simp [seqField, frameOf, packetBody, littleEndian, byteAt]

theorem payloadField_frameOf {c : Config} {ty sq : Word} {p : List Byte} (h : p.length ≤ c.D) :
    payloadField c (frameOf c ty sq p) = padded c p := by
  have hp := padded_length h
  simp [payloadField, frameOf, packetBody, littleEndian, ← hp]

theorem payloadField_length {c : Config} {f : List Byte} (h : f.length = c.N) : (payloadField c f).length = c.D := by
  simp [payloadField, h, Config.N]; omega

/-- What `Parse` gives of what `Encode` laid out. -/
theorem parsePacket_frameOf {c : Config} {ty sq : Word} {p : List Byte} (h : p.length ≤ c.D) :
    parsePacket c (frameOf c ty sq p) = (ty, sq, padded c p) := by
  simp [parsePacket, payloadField_frameOf h]

end Sys2Proof
end

