-- ==== Sys2Proof/Laws/State.lean ====
section
/-! SUPPORT. One lemma per field and update, true by rfl, so that no proof unfolds a record update. -/

namespace Sys2Proof.Machine

/-! ### setCrc -/

@[simp] theorem State.setCrc_crc (s : State) (v : Word) : (s.setCrc v).crc = v := rfl
@[simp] theorem State.setCrc_expectedSeq (s : State) (v : Word) : (s.setCrc v).expectedSeq = s.expectedSeq := rfl
@[simp] theorem State.setCrc_lastAcked (s : State) (v : Word) : (s.setCrc v).lastAcked = s.lastAcked := rfl
@[simp] theorem State.setCrc_nackPending (s : State) (v : Word) : (s.setCrc v).nackPending = s.nackPending := rfl
@[simp] theorem State.setCrc_nackSeq (s : State) (v : Word) : (s.setCrc v).nackSeq = s.nackSeq := rfl
@[simp] theorem State.setCrc_rx (s : State) (v : Word) : (s.setCrc v).rx = s.rx := rfl
@[simp] theorem State.setCrc_tx (s : State) (v : Word) : (s.setCrc v).tx = s.tx := rfl
@[simp] theorem State.setCrc_delivered (s : State) (v : Word) : (s.setCrc v).delivered = s.delivered := rfl
@[simp] theorem State.setCrc_inputs (s : State) (v : Word) : (s.setCrc v).inputs = s.inputs := rfl
@[simp] theorem State.setCrc_response (s : State) (v : Word) : (s.setCrc v).response = s.response := rfl
@[simp] theorem State.setCrc_draw (s : State) (v : Word) : (s.setCrc v).draw = s.draw := rfl

/-! ### setExpectedSeq -/

@[simp] theorem State.setExpectedSeq_crc (s : State) (v : Word) : (s.setExpectedSeq v).crc = s.crc := rfl
@[simp] theorem State.setExpectedSeq_expectedSeq (s : State) (v : Word) : (s.setExpectedSeq v).expectedSeq = v := rfl
@[simp] theorem State.setExpectedSeq_lastAcked (s : State) (v : Word) :
    (s.setExpectedSeq v).lastAcked = s.lastAcked := rfl
@[simp] theorem State.setExpectedSeq_nackPending (s : State) (v : Word) :
    (s.setExpectedSeq v).nackPending = s.nackPending := rfl
@[simp] theorem State.setExpectedSeq_nackSeq (s : State) (v : Word) : (s.setExpectedSeq v).nackSeq = s.nackSeq := rfl
@[simp] theorem State.setExpectedSeq_rx (s : State) (v : Word) : (s.setExpectedSeq v).rx = s.rx := rfl
@[simp] theorem State.setExpectedSeq_tx (s : State) (v : Word) : (s.setExpectedSeq v).tx = s.tx := rfl
@[simp] theorem State.setExpectedSeq_delivered (s : State) (v : Word) :
    (s.setExpectedSeq v).delivered = s.delivered := rfl
@[simp] theorem State.setExpectedSeq_inputs (s : State) (v : Word) : (s.setExpectedSeq v).inputs = s.inputs := rfl
@[simp] theorem State.setExpectedSeq_response (s : State) (v : Word) :
    (s.setExpectedSeq v).response = s.response := rfl
@[simp] theorem State.setExpectedSeq_draw (s : State) (v : Word) : (s.setExpectedSeq v).draw = s.draw := rfl

/-! ### setLastAcked -/

@[simp] theorem State.setLastAcked_crc (s : State) (v : Word) : (s.setLastAcked v).crc = s.crc := rfl
@[simp] theorem State.setLastAcked_expectedSeq (s : State) (v : Word) :
    (s.setLastAcked v).expectedSeq = s.expectedSeq := rfl
@[simp] theorem State.setLastAcked_lastAcked (s : State) (v : Word) : (s.setLastAcked v).lastAcked = v := rfl
@[simp] theorem State.setLastAcked_nackPending (s : State) (v : Word) :
    (s.setLastAcked v).nackPending = s.nackPending := rfl
@[simp] theorem State.setLastAcked_nackSeq (s : State) (v : Word) : (s.setLastAcked v).nackSeq = s.nackSeq := rfl
@[simp] theorem State.setLastAcked_rx (s : State) (v : Word) : (s.setLastAcked v).rx = s.rx := rfl
@[simp] theorem State.setLastAcked_tx (s : State) (v : Word) : (s.setLastAcked v).tx = s.tx := rfl
@[simp] theorem State.setLastAcked_delivered (s : State) (v : Word) :
    (s.setLastAcked v).delivered = s.delivered := rfl
@[simp] theorem State.setLastAcked_inputs (s : State) (v : Word) : (s.setLastAcked v).inputs = s.inputs := rfl
@[simp] theorem State.setLastAcked_response (s : State) (v : Word) : (s.setLastAcked v).response = s.response := rfl
@[simp] theorem State.setLastAcked_draw (s : State) (v : Word) : (s.setLastAcked v).draw = s.draw := rfl

/-! ### setNack -/

@[simp] theorem State.setNack_crc (s : State) (v : Word) : (s.setNack v).crc = s.crc := rfl
@[simp] theorem State.setNack_expectedSeq (s : State) (v : Word) : (s.setNack v).expectedSeq = s.expectedSeq := rfl
@[simp] theorem State.setNack_lastAcked (s : State) (v : Word) : (s.setNack v).lastAcked = s.lastAcked := rfl
@[simp] theorem State.setNack_nackPending (s : State) (v : Word) : (s.setNack v).nackPending = true := rfl
@[simp] theorem State.setNack_nackSeq (s : State) (v : Word) : (s.setNack v).nackSeq = v := rfl
@[simp] theorem State.setNack_rx (s : State) (v : Word) : (s.setNack v).rx = s.rx := rfl
@[simp] theorem State.setNack_tx (s : State) (v : Word) : (s.setNack v).tx = s.tx := rfl
@[simp] theorem State.setNack_delivered (s : State) (v : Word) : (s.setNack v).delivered = s.delivered := rfl
@[simp] theorem State.setNack_inputs (s : State) (v : Word) : (s.setNack v).inputs = s.inputs := rfl
@[simp] theorem State.setNack_response (s : State) (v : Word) : (s.setNack v).response = s.response := rfl
@[simp] theorem State.setNack_draw (s : State) (v : Word) : (s.setNack v).draw = s.draw := rfl

/-! ### clearNackPending -/

@[simp] theorem State.clearNackPending_crc (s : State) : (s.clearNackPending).crc = s.crc := rfl
@[simp] theorem State.clearNackPending_expectedSeq (s : State) :
    (s.clearNackPending).expectedSeq = s.expectedSeq := rfl
@[simp] theorem State.clearNackPending_lastAcked (s : State) : (s.clearNackPending).lastAcked = s.lastAcked := rfl
@[simp] theorem State.clearNackPending_nackPending (s : State) : (s.clearNackPending).nackPending = false := rfl
@[simp] theorem State.clearNackPending_nackSeq (s : State) : (s.clearNackPending).nackSeq = s.nackSeq := rfl
@[simp] theorem State.clearNackPending_rx (s : State) : (s.clearNackPending).rx = s.rx := rfl
@[simp] theorem State.clearNackPending_tx (s : State) : (s.clearNackPending).tx = s.tx := rfl
@[simp] theorem State.clearNackPending_delivered (s : State) : (s.clearNackPending).delivered = s.delivered := rfl
@[simp] theorem State.clearNackPending_inputs (s : State) : (s.clearNackPending).inputs = s.inputs := rfl
@[simp] theorem State.clearNackPending_response (s : State) : (s.clearNackPending).response = s.response := rfl
@[simp] theorem State.clearNackPending_draw (s : State) : (s.clearNackPending).draw = s.draw := rfl

/-! ### resetRegisters -/

@[simp] theorem State.resetRegisters_crc (s : State) (c : Config) : (s.resetRegisters c).crc = c.CRC_INIT := rfl
@[simp] theorem State.resetRegisters_expectedSeq (s : State) (c : Config) :
    (s.resetRegisters c).expectedSeq = 0x0000 := rfl
@[simp] theorem State.resetRegisters_lastAcked (s : State) (c : Config) :
    (s.resetRegisters c).lastAcked = 0xFFFF := rfl
@[simp] theorem State.resetRegisters_nackPending (s : State) (c : Config) :
    (s.resetRegisters c).nackPending = false := rfl
@[simp] theorem State.resetRegisters_nackSeq (s : State) (c : Config) :
    (s.resetRegisters c).nackSeq = s.nackSeq := rfl
@[simp] theorem State.resetRegisters_rx (s : State) (c : Config) : (s.resetRegisters c).rx = s.rx := rfl
@[simp] theorem State.resetRegisters_tx (s : State) (c : Config) : (s.resetRegisters c).tx = s.tx := rfl
@[simp] theorem State.resetRegisters_delivered (s : State) (c : Config) :
    (s.resetRegisters c).delivered = s.delivered := rfl
@[simp] theorem State.resetRegisters_inputs (s : State) (c : Config) : (s.resetRegisters c).inputs = s.inputs := rfl
@[simp] theorem State.resetRegisters_response (s : State) (c : Config) :
    (s.resetRegisters c).response = s.response := rfl
@[simp] theorem State.resetRegisters_draw (s : State) (c : Config) : (s.resetRegisters c).draw = s.draw := rfl

/-! ### rxConsume -/

@[simp] theorem State.rxConsume_crc (s : State) (n : Nat) : (s.rxConsume n).crc = s.crc := rfl
@[simp] theorem State.rxConsume_expectedSeq (s : State) (n : Nat) :
    (s.rxConsume n).expectedSeq = s.expectedSeq := rfl
@[simp] theorem State.rxConsume_lastAcked (s : State) (n : Nat) : (s.rxConsume n).lastAcked = s.lastAcked := rfl
@[simp] theorem State.rxConsume_nackPending (s : State) (n : Nat) :
    (s.rxConsume n).nackPending = s.nackPending := rfl
@[simp] theorem State.rxConsume_nackSeq (s : State) (n : Nat) : (s.rxConsume n).nackSeq = s.nackSeq := rfl
@[simp] theorem State.rxConsume_rx (s : State) (n : Nat) : (s.rxConsume n).rx = s.rx.drop (s.readCount n) := rfl
@[simp] theorem State.rxConsume_tx (s : State) (n : Nat) : (s.rxConsume n).tx = s.tx := rfl
@[simp] theorem State.rxConsume_delivered (s : State) (n : Nat) : (s.rxConsume n).delivered = s.delivered := rfl
@[simp] theorem State.rxConsume_inputs (s : State) (n : Nat) : (s.rxConsume n).inputs = s.inputs := rfl
@[simp] theorem State.rxConsume_response (s : State) (n : Nat) : (s.rxConsume n).response = s.response := rfl
@[simp] theorem State.rxConsume_draw (s : State) (n : Nat) : (s.rxConsume n).draw = s.draw := rfl

/-! ### txWrite -/

@[simp] theorem State.txWrite_crc (s : State) (bs : List Byte) : (s.txWrite bs).crc = s.crc := rfl
@[simp] theorem State.txWrite_expectedSeq (s : State) (bs : List Byte) :
    (s.txWrite bs).expectedSeq = s.expectedSeq := rfl
@[simp] theorem State.txWrite_lastAcked (s : State) (bs : List Byte) : (s.txWrite bs).lastAcked = s.lastAcked := rfl
@[simp] theorem State.txWrite_nackPending (s : State) (bs : List Byte) :
    (s.txWrite bs).nackPending = s.nackPending := rfl
@[simp] theorem State.txWrite_nackSeq (s : State) (bs : List Byte) : (s.txWrite bs).nackSeq = s.nackSeq := rfl
@[simp] theorem State.txWrite_rx (s : State) (bs : List Byte) : (s.txWrite bs).rx = s.rx := rfl
@[simp] theorem State.txWrite_tx (s : State) (bs : List Byte) : (s.txWrite bs).tx = s.tx ++ s.written bs := rfl
@[simp] theorem State.txWrite_delivered (s : State) (bs : List Byte) : (s.txWrite bs).delivered = s.delivered := rfl
@[simp] theorem State.txWrite_inputs (s : State) (bs : List Byte) : (s.txWrite bs).inputs = s.inputs := rfl
@[simp] theorem State.txWrite_response (s : State) (bs : List Byte) : (s.txWrite bs).response = s.response := rfl
@[simp] theorem State.txWrite_draw (s : State) (bs : List Byte) : (s.txWrite bs).draw = s.draw := rfl

/-! ### deliver -/

@[simp] theorem State.deliver_crc (s : State) (slot : Nat) (p : List Byte) : (s.deliver slot p).crc = s.crc := rfl
@[simp] theorem State.deliver_expectedSeq (s : State) (slot : Nat) (p : List Byte) :
    (s.deliver slot p).expectedSeq = s.expectedSeq := rfl
@[simp] theorem State.deliver_lastAcked (s : State) (slot : Nat) (p : List Byte) :
    (s.deliver slot p).lastAcked = s.lastAcked := rfl
@[simp] theorem State.deliver_nackPending (s : State) (slot : Nat) (p : List Byte) :
    (s.deliver slot p).nackPending = s.nackPending := rfl
@[simp] theorem State.deliver_nackSeq (s : State) (slot : Nat) (p : List Byte) :
    (s.deliver slot p).nackSeq = s.nackSeq := rfl
@[simp] theorem State.deliver_rx (s : State) (slot : Nat) (p : List Byte) : (s.deliver slot p).rx = s.rx := rfl
@[simp] theorem State.deliver_tx (s : State) (slot : Nat) (p : List Byte) : (s.deliver slot p).tx = s.tx := rfl
@[simp] theorem State.deliver_delivered (s : State) (slot : Nat) (p : List Byte) :
    (s.deliver slot p).delivered = s.delivered ++ [⟨slot, p⟩] := rfl
@[simp] theorem State.deliver_inputs (s : State) (slot : Nat) (p : List Byte) :
    (s.deliver slot p).inputs = s.inputs := rfl
@[simp] theorem State.deliver_response (s : State) (slot : Nat) (p : List Byte) :
    (s.deliver slot p).response = s.response := rfl
@[simp] theorem State.deliver_draw (s : State) (slot : Nat) (p : List Byte) : (s.deliver slot p).draw = s.draw := rfl

/-! ### respond -/

@[simp] theorem State.respond_crc (s : State) (r : Response) : (s.respond r).crc = s.crc := rfl
@[simp] theorem State.respond_expectedSeq (s : State) (r : Response) :
    (s.respond r).expectedSeq = s.expectedSeq := rfl
@[simp] theorem State.respond_lastAcked (s : State) (r : Response) : (s.respond r).lastAcked = s.lastAcked := rfl
@[simp] theorem State.respond_nackPending (s : State) (r : Response) :
    (s.respond r).nackPending = s.nackPending := rfl
@[simp] theorem State.respond_nackSeq (s : State) (r : Response) : (s.respond r).nackSeq = s.nackSeq := rfl
@[simp] theorem State.respond_rx (s : State) (r : Response) : (s.respond r).rx = s.rx := rfl
@[simp] theorem State.respond_tx (s : State) (r : Response) : (s.respond r).tx = s.tx := rfl
@[simp] theorem State.respond_delivered (s : State) (r : Response) : (s.respond r).delivered = s.delivered := rfl
@[simp] theorem State.respond_inputs (s : State) (r : Response) : (s.respond r).inputs = s.inputs := rfl
@[simp] theorem State.respond_response (s : State) (r : Response) : (s.respond r).response = some r := rfl
@[simp] theorem State.respond_draw (s : State) (r : Response) : (s.respond r).draw = s.draw := rfl

/-! ### popInput -/

@[simp] theorem State.popInput_crc (s : State) (rest : List Input) : (s.popInput rest).crc = s.crc := rfl
@[simp] theorem State.popInput_expectedSeq (s : State) (rest : List Input) :
    (s.popInput rest).expectedSeq = s.expectedSeq := rfl
@[simp] theorem State.popInput_lastAcked (s : State) (rest : List Input) :
    (s.popInput rest).lastAcked = s.lastAcked := rfl
@[simp] theorem State.popInput_nackPending (s : State) (rest : List Input) :
    (s.popInput rest).nackPending = s.nackPending := rfl
@[simp] theorem State.popInput_nackSeq (s : State) (rest : List Input) : (s.popInput rest).nackSeq = s.nackSeq := rfl
@[simp] theorem State.popInput_rx (s : State) (rest : List Input) : (s.popInput rest).rx = s.rx := rfl
@[simp] theorem State.popInput_tx (s : State) (rest : List Input) : (s.popInput rest).tx = s.tx := rfl
@[simp] theorem State.popInput_delivered (s : State) (rest : List Input) :
    (s.popInput rest).delivered = s.delivered := rfl
@[simp] theorem State.popInput_inputs (s : State) (rest : List Input) : (s.popInput rest).inputs = rest := rfl
@[simp] theorem State.popInput_response (s : State) (rest : List Input) :
    (s.popInput rest).response = s.response := rfl
@[simp] theorem State.popInput_draw (s : State) (rest : List Input) : (s.popInput rest).draw = s.draw := rfl

/-! ### setDraw -/

@[simp] theorem State.setDraw_crc (s : State) (d : Draw) : (s.setDraw d).crc = s.crc := rfl
@[simp] theorem State.setDraw_expectedSeq (s : State) (d : Draw) : (s.setDraw d).expectedSeq = s.expectedSeq := rfl
@[simp] theorem State.setDraw_lastAcked (s : State) (d : Draw) : (s.setDraw d).lastAcked = s.lastAcked := rfl
@[simp] theorem State.setDraw_nackPending (s : State) (d : Draw) : (s.setDraw d).nackPending = s.nackPending := rfl
@[simp] theorem State.setDraw_nackSeq (s : State) (d : Draw) : (s.setDraw d).nackSeq = s.nackSeq := rfl
@[simp] theorem State.setDraw_rx (s : State) (d : Draw) : (s.setDraw d).rx = s.rx := rfl
@[simp] theorem State.setDraw_tx (s : State) (d : Draw) : (s.setDraw d).tx = s.tx := rfl
@[simp] theorem State.setDraw_delivered (s : State) (d : Draw) : (s.setDraw d).delivered = s.delivered := rfl
@[simp] theorem State.setDraw_inputs (s : State) (d : Draw) : (s.setDraw d).inputs = s.inputs := rfl
@[simp] theorem State.setDraw_response (s : State) (d : Draw) : (s.setDraw d).response = s.response := rfl
@[simp] theorem State.setDraw_draw (s : State) (d : Draw) : (s.setDraw d).draw = d := rfl

/-! ### arrive -/

@[simp] theorem State.arrive_crc (s : State) (bs : List Byte) : (s.arrive bs).crc = s.crc := rfl
@[simp] theorem State.arrive_expectedSeq (s : State) (bs : List Byte) :
    (s.arrive bs).expectedSeq = s.expectedSeq := rfl
@[simp] theorem State.arrive_lastAcked (s : State) (bs : List Byte) : (s.arrive bs).lastAcked = s.lastAcked := rfl
@[simp] theorem State.arrive_nackPending (s : State) (bs : List Byte) :
    (s.arrive bs).nackPending = s.nackPending := rfl
@[simp] theorem State.arrive_nackSeq (s : State) (bs : List Byte) : (s.arrive bs).nackSeq = s.nackSeq := rfl
@[simp] theorem State.arrive_rx (s : State) (bs : List Byte) : (s.arrive bs).rx = s.rx ++ bs := rfl
@[simp] theorem State.arrive_tx (s : State) (bs : List Byte) : (s.arrive bs).tx = s.tx := rfl
@[simp] theorem State.arrive_delivered (s : State) (bs : List Byte) : (s.arrive bs).delivered = s.delivered := rfl
@[simp] theorem State.arrive_inputs (s : State) (bs : List Byte) : (s.arrive bs).inputs = s.inputs := rfl
@[simp] theorem State.arrive_response (s : State) (bs : List Byte) : (s.arrive bs).response = s.response := rfl
@[simp] theorem State.arrive_draw (s : State) (bs : List Byte) : (s.arrive bs).draw = s.draw := rfl

/-! ### takeTx -/

@[simp] theorem State.takeTx_crc (s : State) (n : Nat) : (s.takeTx n).crc = s.crc := rfl
@[simp] theorem State.takeTx_expectedSeq (s : State) (n : Nat) : (s.takeTx n).expectedSeq = s.expectedSeq := rfl
@[simp] theorem State.takeTx_lastAcked (s : State) (n : Nat) : (s.takeTx n).lastAcked = s.lastAcked := rfl
@[simp] theorem State.takeTx_nackPending (s : State) (n : Nat) : (s.takeTx n).nackPending = s.nackPending := rfl
@[simp] theorem State.takeTx_nackSeq (s : State) (n : Nat) : (s.takeTx n).nackSeq = s.nackSeq := rfl
@[simp] theorem State.takeTx_rx (s : State) (n : Nat) : (s.takeTx n).rx = s.rx := rfl
@[simp] theorem State.takeTx_tx (s : State) (n : Nat) : (s.takeTx n).tx = s.tx.drop n := rfl
@[simp] theorem State.takeTx_delivered (s : State) (n : Nat) : (s.takeTx n).delivered = s.delivered := rfl
@[simp] theorem State.takeTx_inputs (s : State) (n : Nat) : (s.takeTx n).inputs = s.inputs := rfl
@[simp] theorem State.takeTx_response (s : State) (n : Nat) : (s.takeTx n).response = s.response := rfl
@[simp] theorem State.takeTx_draw (s : State) (n : Nat) : (s.takeTx n).draw = s.draw := rfl

/-! ### powerOn -/

@[simp] theorem State.powerOn_crc (s : State) (c : Config) (v : Word) : (s.powerOn c v).crc = c.CRC_INIT := rfl
@[simp] theorem State.powerOn_expectedSeq (s : State) (c : Config) (v : Word) :
    (s.powerOn c v).expectedSeq = 0x0000 := rfl
@[simp] theorem State.powerOn_lastAcked (s : State) (c : Config) (v : Word) :
    (s.powerOn c v).lastAcked = 0xFFFF := rfl
@[simp] theorem State.powerOn_nackPending (s : State) (c : Config) (v : Word) :
    (s.powerOn c v).nackPending = false := rfl
@[simp] theorem State.powerOn_nackSeq (s : State) (c : Config) (v : Word) : (s.powerOn c v).nackSeq = v := rfl
@[simp] theorem State.powerOn_rx (s : State) (c : Config) (v : Word) : (s.powerOn c v).rx = s.rx := rfl
@[simp] theorem State.powerOn_tx (s : State) (c : Config) (v : Word) : (s.powerOn c v).tx = s.tx := rfl
@[simp] theorem State.powerOn_delivered (s : State) (c : Config) (v : Word) :
    (s.powerOn c v).delivered = s.delivered := rfl
@[simp] theorem State.powerOn_inputs (s : State) (c : Config) (v : Word) : (s.powerOn c v).inputs = s.inputs := rfl
@[simp] theorem State.powerOn_response (s : State) (c : Config) (v : Word) :
    (s.powerOn c v).response = s.response := rfl
@[simp] theorem State.powerOn_draw (s : State) (c : Config) (v : Word) : (s.powerOn c v).draw = s.draw := rfl

/-! ### issue -/

@[simp] theorem State.issue_crc (s : State) (k : Command) (d : Draw) : (s.issue k d).crc = s.crc := rfl
@[simp] theorem State.issue_expectedSeq (s : State) (k : Command) (d : Draw) :
    (s.issue k d).expectedSeq = s.expectedSeq := rfl
@[simp] theorem State.issue_lastAcked (s : State) (k : Command) (d : Draw) :
    (s.issue k d).lastAcked = s.lastAcked := rfl
@[simp] theorem State.issue_nackPending (s : State) (k : Command) (d : Draw) :
    (s.issue k d).nackPending = s.nackPending := rfl
@[simp] theorem State.issue_nackSeq (s : State) (k : Command) (d : Draw) : (s.issue k d).nackSeq = s.nackSeq := rfl
@[simp] theorem State.issue_rx (s : State) (k : Command) (d : Draw) : (s.issue k d).rx = s.rx := rfl
@[simp] theorem State.issue_tx (s : State) (k : Command) (d : Draw) : (s.issue k d).tx = s.tx := rfl
@[simp] theorem State.issue_delivered (s : State) (k : Command) (d : Draw) :
    (s.issue k d).delivered = s.delivered := rfl
@[simp] theorem State.issue_inputs (s : State) (k : Command) (d : Draw) :
    (s.issue k d).inputs = .command k d :: s.inputs := rfl
@[simp] theorem State.issue_response (s : State) (k : Command) (d : Draw) :
    (s.issue k d).response = s.response := rfl
@[simp] theorem State.issue_draw (s : State) (k : Command) (d : Draw) : (s.issue k d).draw = s.draw := rfl

/-! ### resetOn -/

theorem State.reset_eq : State.reset = State.resetOn Config.here := rfl
@[simp] theorem State.resetOn_crc (c : Config) : (State.resetOn c).crc = c.CRC_INIT := rfl
@[simp] theorem State.resetOn_expectedSeq (c : Config) : (State.resetOn c).expectedSeq = 0x0000 := rfl
@[simp] theorem State.resetOn_lastAcked (c : Config) : (State.resetOn c).lastAcked = 0xFFFF := rfl
@[simp] theorem State.resetOn_nackPending (c : Config) : (State.resetOn c).nackPending = false := rfl
@[simp] theorem State.resetOn_nackSeq (c : Config) : (State.resetOn c).nackSeq = 0x0000 := rfl
@[simp] theorem State.resetOn_rx (c : Config) : (State.resetOn c).rx = [] := rfl
@[simp] theorem State.resetOn_tx (c : Config) : (State.resetOn c).tx = [] := rfl
@[simp] theorem State.resetOn_delivered (c : Config) : (State.resetOn c).delivered = [] := rfl
@[simp] theorem State.resetOn_inputs (c : Config) : (State.resetOn c).inputs = [] := rfl
@[simp] theorem State.resetOn_response (c : Config) : (State.resetOn c).response = none := rfl
@[simp] theorem State.resetOn_draw (c : Config) : (State.resetOn c).draw = ⟨0, none⟩ := rfl

/-! ### raising an error -/

@[simp] theorem State.raiseError_eq (s : State) (e : Response) : s.raiseError e = s.respond e := rfl
@[simp] theorem State.illegalCommand_eq (s : State) (op : Byte) :
    s.illegalCommand op = s.respond (.illegalCommand op) := rfl

end Sys2Proof.Machine
end

