-- ==== Sys2Proof/Laws/Ops.lean ====
section
/-! SUPPORT. What each shared channel operation can do (20_memory.md R54, R55). -/

namespace Sys2Proof.Machine

theorem State.readCount_le (s : State) (n : Nat) : s.readCount n ≤ n ∧ s.readCount n ≤ s.rx.length := by
  simp only [State.readCount]; omega

/-- A read returns the head of RX and leaves the rest. -/
theorem State.rxBytes_append_rx (s : State) (n : Nat) : s.rxBytes n ++ (s.rxConsume n).rx = s.rx := by
  simp [State.rxBytes]

theorem State.rxBytes_length (s : State) (n : Nat) : (s.rxBytes n).length = s.readCount n := by
  have := s.readCount_le n
  simp [State.rxBytes]; omega

/-- A read that may return all it was asked for does. -/
theorem State.readCount_full {s : State} {n : Nat} (hd : n ≤ s.draw.read) (hr : n ≤ s.rx.length) :
    s.readCount n = n := by
  simp only [State.readCount]; omega

/-- A short read returns what the environment drew. -/
theorem State.readCount_short {s : State} {n : Nat} (hd : s.draw.read < n) (hr : n ≤ s.rx.length) :
    s.readCount n = s.draw.read := by
  simp only [State.readCount]; omega

theorem State.writeOk_iff (s : State) : s.writeOk = true ↔ s.draw.write = none := by
  simp [State.writeOk]

theorem State.written_ok {s : State} (h : s.draw.write = none) (bs : List Byte) : s.written bs = bs := by
  simp [State.written, h]

/-- A failed write leaves a strict prefix. -/
theorem State.written_fail {s : State} {j : Nat} (h : s.draw.write = some j) (bs : List Byte) :
    s.written bs = bs.take (min j (bs.length - 1)) := by
  simp [State.written, h]

/-- Whatever the draw, a prefix of what was written reaches TX. -/
theorem State.written_prefix (s : State) (bs : List Byte) : s.written bs <+: bs := by
  unfold State.written
  split
  · exact List.prefix_refl bs
  · exact List.take_prefix _ _

theorem State.nackValue_pending {s : State} (h : s.nackPending = true) : s.nackValue = some s.nackSeq := by
  simp [State.nackValue, h]

theorem State.nackValue_none {s : State} (h : s.nackPending = false) : s.nackValue = none := by
  simp [State.nackValue, h]

end Sys2Proof.Machine
end

