-- ==== Sys2Proof/Laws/PerInstr.lean ====
section
/-! SUPPORT. Per-instruction families: the statement and one lemma per constructor. -/

namespace Sys2Proof.Laws.RowBits

/-- Each row's width in bits and its match, written out from spec/opcode_table.json. -/
def row : Instr → Nat × Nat
  | .reset => (8, 0x01)
  | .crcInit => (8, 0x10)
  | .crcBit _ => (8, 0x11)
  | .crcByte _ => (8, 0x12)
  | .crcRead => (8, 0x13)
  | .encode _ _ _ => (8, 0x20)
  | .decode _ => (8, 0x21)
  | .transmit _ _ _ => (8, 0x22)
  | .receive => (8, 0x30)
  | .readStatus => (8, 0x31)
  | .clearNack => (8, 0x32)
  | .ack _ _ => (16, 0x0001)
  | .nack _ _ => (16, 0x0002)
  | .data _ _ => (16, 0x0003)

/-- The bits a row fixes, as an encoding carries them: the opcode byte, or the type at offsets 0 and 1. -/
def fixedBits : Encoded → Nat × Nat
  | .command k => (8, k.opcode.toNat)
  | .packet f => (16, (typeField f).toNat)

/-- The instruction's encoding carries the bits its row of the opcode table fixes. -/
def Statement (i : Instr) : Prop := fixedBits (Sys2Proof.encode i) = row i

theorem packet_row (t : PacketType) (sq : Word) (pl : List Byte) :
    fixedBits (.packet (encodePacket Config.here t sq pl)) = (16, (wireType t).toNat) := by
  simp [fixedBits, encodePacket]

theorem reset : Statement .reset := rfl
theorem crcInit : Statement .crcInit := rfl
theorem crcBit (b : Bool) : Statement (.crcBit b) := rfl
theorem crcByte (v : Byte) : Statement (.crcByte v) := rfl
theorem crcRead : Statement .crcRead := rfl
theorem encode (t : PacketType) (sq : Word) (p : List Byte) : Statement (.encode t sq p) := rfl
theorem decode (f : List Byte) : Statement (.decode f) := rfl
theorem transmit (t : PacketType) (sq : Word) (p : List Byte) : Statement (.transmit t sq p) := rfl
theorem receive : Statement .receive := rfl
theorem readStatus : Statement .readStatus := rfl
theorem clearNack : Statement .clearNack := rfl
theorem ack (sq : Word) (pl : List Byte) : Statement (.ack sq pl) := packet_row .ack sq pl
theorem nack (sq : Word) (pl : List Byte) : Statement (.nack sq pl) := packet_row .nack sq pl
theorem data (sq : Word) (pl : List Byte) : Statement (.data sq pl) := packet_row .data sq pl

end Sys2Proof.Laws.RowBits
end

