-- ==== Sys2Proof/Laws/Receive.lean ====
section
/-! SUPPORT. Everything RECEIVE can do, said once (42_receive.md R150, R209). -/

namespace Sys2Proof.Machine

/-- RECEIVE ends in one of four ways, in the order of R209. -/
theorem receivePacket_cases (c : Config) (s : State) :
    (s.rx.length < c.N ∧ receivePacket c s = s.respond .noPacket) ∨
    (c.N ≤ s.rx.length ∧ s.draw.read < c.N ∧
      receivePacket c s = (s.rxConsume c.N).respond (.transportError (some s.draw.read))) ∨
    (c.N ≤ s.rx.length ∧ c.N ≤ s.draw.read ∧ residue c (s.rx.take c.N) ≠ 0 ∧
      receivePacket c s = (s.rxConsume c.N).respond .checksumError) ∨
    (c.N ≤ s.rx.length ∧ c.N ≤ s.draw.read ∧ residue c (s.rx.take c.N) = 0 ∧
      receivePacket c s =
        dispatchPacket c (typeField (s.rx.take c.N)) (seqField (s.rx.take c.N))
          (payloadField c (s.rx.take c.N)) (s.rxConsume c.N)) := by
  by_cases h1 : s.rx.length < c.N
  · exact .inl ⟨h1, by simp [receivePacket, State.rxAvailable, h1]⟩
  have h1' : c.N ≤ s.rx.length := by omega
  by_cases h2 : s.draw.read < c.N
  · refine .inr (.inl ⟨h1', h2, ?_⟩)
    simp [receivePacket, State.rxAvailable, h1, receiveBytes, State.rxBytes_length,
      State.readCount_short h2 h1', h2]
  have h2' : c.N ≤ s.draw.read := by omega
  have hb : s.rxBytes c.N = s.rx.take c.N := by simp [State.rxBytes, State.readCount_full h2' h1']
  have hl : ¬ min c.N s.rx.length < c.N := by omega
  by_cases h3 : residue c (s.rx.take c.N) = 0
  · refine .inr (.inr (.inr ⟨h1', h2', h3, ?_⟩))
    simp [receivePacket, State.rxAvailable, h1, receiveBytes, hb, h3, parsePacket]
  · refine .inr (.inr (.inl ⟨h1', h2', h3, ?_⟩))
    simp only [receivePacket, State.rxAvailable, h1, receiveBytes, hb, h3, if_false, List.length_take, hl,
      State.raiseError_eq]

/-- Type dispatch takes exactly one of four actions (R153). -/
theorem dispatchPacket_cases (c : Config) (ty sq : Word) (pl : List Byte) (s : State) :
    (ty = 0x0001 ∧ dispatchPacket c ty sq pl s = ackAction sq pl s) ∨
    (ty = 0x0002 ∧ dispatchPacket c ty sq pl s = nackAction sq pl s) ∨
    (ty = 0x0003 ∧ dispatchPacket c ty sq pl s = dataAction c sq pl s) ∨
    (ty ≠ 0x0001 ∧ ty ≠ 0x0002 ∧ ty ≠ 0x0003 ∧
      dispatchPacket c ty sq pl s = s.respond (.unknownType ty sq)) := by
  unfold dispatchPacket
  split
  · exact .inl ⟨‹_›, rfl⟩
  split
  · exact .inr (.inl ⟨‹_›, rfl⟩)
  split
  · exact .inr (.inr (.inl ⟨‹_›, rfl⟩))
  · exact .inr (.inr (.inr ⟨‹_›, ‹_›, ‹_›, rfl⟩))

/-- A Data packet is accepted or Nacked by 16-bit equality (R156, R159). -/
theorem dataAction_cases (c : Config) (sq : Word) (pl : List Byte) (s : State) :
    (sq = s.expectedSeq ∧ dataAction c sq pl s = acceptData c sq pl s) ∨
    (sq ≠ s.expectedSeq ∧ dataAction c sq pl s = nackData c sq s) := by
  unfold dataAction
  split
  · exact .inl ⟨‹_›, rfl⟩
  · exact .inr ⟨‹_›, rfl⟩

/-- A slot is one of the `B` (R56, R157). -/
theorem slotOf_lt {c : Config} (h : c.wf) (sq : Word) : slotOf c sq < c.B := Nat.mod_lt _ h.2

theorem here_wf : Config.here.wf := ⟨by decide, Nat.succ_pos _⟩

end Sys2Proof.Machine
end

