-- ==== Sys2Proof/Laws/Step.lean ====
section
/-! SUPPORT. Everything one step can do, said once (20_memory.md R63, R69). -/

namespace Sys2Proof.Machine

/-- One step: idle, an action of the environment, a command the port takes, or a command it refuses. -/
theorem stepWith_cases (c : Config) (run : Instr → State → Host.Outcome State Fault Refusal) (s : State) :
    (s.inputs = [] ∧ stepWith c run s = .next s) ∨
    (∃ bs rest, s.inputs = .arrive bs :: rest ∧ stepWith c run s = .next ((s.popInput rest).arrive bs)) ∨
    (∃ n rest, s.inputs = .take n :: rest ∧ stepWith c run s = .next ((s.popInput rest).takeTx n)) ∨
    (∃ v rest, s.inputs = .powerOn v :: rest ∧ stepWith c run s = .next ((s.popInput rest).powerOn c v)) ∨
    (∃ k d rest i, s.inputs = .command k d :: rest ∧ portInstr k = some i ∧
      stepWith c run s = run i ((s.popInput rest).setDraw d)) ∨
    (∃ k d rest, s.inputs = .command k d :: rest ∧ portInstr k = none ∧
      stepWith c run s = .next (((s.popInput rest).setDraw d).illegalCommand k.opcode)) := by
  unfold stepWith
  split
  · exact .inl ⟨‹_›, rfl⟩
  · exact .inr (.inl ⟨_, _, ‹_›, rfl⟩)
  · exact .inr (.inr (.inl ⟨_, _, ‹_›, rfl⟩))
  · exact .inr (.inr (.inr (.inl ⟨_, _, ‹_›, rfl⟩)))
  · rename_i k d rest hs
    split
    · exact .inr (.inr (.inr (.inr (.inl ⟨k, d, rest, _, hs, ‹_›, rfl⟩))))
    · exact .inr (.inr (.inr (.inr (.inr ⟨k, d, rest, hs, ‹_›, rfl⟩))))

/-- The same for this machine's step. -/
theorem step_cases (s : State) :
    (s.inputs = [] ∧ step s = .next s) ∨
    (∃ bs rest, s.inputs = .arrive bs :: rest ∧ step s = .next ((s.popInput rest).arrive bs)) ∨
    (∃ n rest, s.inputs = .take n :: rest ∧ step s = .next ((s.popInput rest).takeTx n)) ∨
    (∃ v rest, s.inputs = .powerOn v :: rest ∧ step s = .next ((s.popInput rest).powerOn Config.here v)) ∨
    (∃ k d rest i, s.inputs = .command k d :: rest ∧ portInstr k = some i ∧
      step s = exec i ((s.popInput rest).setDraw d)) ∨
    (∃ k d rest, s.inputs = .command k d :: rest ∧ portInstr k = none ∧
      step s = .next (((s.popInput rest).setDraw d).illegalCommand k.opcode)) :=
  stepWith_cases Config.here exec s

/-- The port takes exactly what the command decoder takes. -/
theorem portInstr_eq_some {k : Command} {i : Instr} : portInstr k = some i ↔ decode (.command k) = .ok i := by
  simp only [portInstr, decode, decodeOn]
  cases decodeCommand k <;> simp [Except.toOption]

end Sys2Proof.Machine
end

