-- ==== Sys2Proof/Syntax/Assembler.lean ====
section
/-! DEFINITION. The textual syntax of commands (30_encoding.md R92) and the pseudo-commands (R93): the spec's notation for
command sequences. The machine reads command records, never text. -/

namespace Sys2Proof.Asm

/-! ## Pseudo-commands, each by its expansion (R93) -/

/-- `crc.bytes b0, b1, ..., bk`. -/
def crcBytes (bs : List Byte) : List Instr := bs.map .crcByte

/-- `send.ack <u16>`. -/
def sendAck (sq : Word) : List Instr := [.transmit .ack sq []]

/-- `send.nack <u16>`. -/
def sendNack (sq : Word) : List Instr := [.transmit .nack sq []]

/-- `send.data <u16>, <bytes>`. -/
def sendData (sq : Word) (p : List Byte) : List Instr := [.transmit .data sq p]

/-! ## Lexical rules (R92) -/

inductive Token where
  | word (cs : List Char)
  | str (cs : List Char)
  | lbracket | rbracket | comma
  deriving DecidableEq, Repr

/-- Where the reader of a line stands; the characters of an open word or string are kept latest first. -/
inductive LexState where
  | between
  | inWord (rev : List Char)
  | inStr (rev : List Char)
  | comment
  deriving DecidableEq, Repr

/-- Characters of mnemonics, type names and numbers. -/
def wordChar (ch : Char) : Bool := ch.isAlphanum || ch == '.'

/-- A character outside any word, string and comment. -/
def startChar (ch : Char) : Option (List Token × LexState) :=
  if wordChar ch then some ([], .inWord [ch])
  else if ch == ' ' || ch == '\t' then some ([], .between)
  else if ch == '[' then some ([.lbracket], .between)
  else if ch == ']' then some ([.rbracket], .between)
  else if ch == ',' then some ([.comma], .between)
  else if ch == '"' then some ([], .inStr [])
  else if ch == ';' then some ([], .comment)
  else none

/-- The tokens a character completes, and where the reader then stands. A `;` inside a string is a character of it. -/
def lexChar : LexState → Char → Option (List Token × LexState)
  | .comment, _ => some ([], .comment)
  | .inStr r, ch => if ch == '"' then some ([.str r.reverse], .between) else some ([], .inStr (ch :: r))
  | .inWord r, ch =>
    if wordChar ch then some ([], .inWord (ch :: r))
    else (startChar ch).map fun (ts, st) => (.word r.reverse :: ts, st)
  | .between, ch => startChar ch

/-- The tokens of one line. -/
def lexLine : LexState → List Char → Option (List Token)
  | .inWord r, [] => some [.word r.reverse]
  | .inStr _, [] => none
  | .between, [] => some []
  | .comment, [] => some []
  | st, ch :: cs => do
    let (ts, st') ← lexChar st ch
    let rest ← lexLine st' cs
    some (ts ++ rest)

/-! ## Operands -/

/-- The value of a digit in base 10 or 16. -/
def digitOf (base : Nat) (ch : Char) : Option Nat :=
  let v :=
    if '0' ≤ ch ∧ ch ≤ '9' then ch.toNat - 48
    else if 'a' ≤ ch ∧ ch ≤ 'f' then ch.toNat - 87
    else if 'A' ≤ ch ∧ ch ≤ 'F' then ch.toNat - 55
    else 16
  if v < base then some v else none

/-- Digits read after the value `acc`. -/
def digitsFrom (base acc : Nat) : List Char → Option Nat
  | [] => some acc
  | ch :: cs => do
    let v ← digitOf base ch
    digitsFrom base (base * acc + v) cs

/-- "Numbers are decimal or `0x`-prefixed hexadecimal." -/
def numberOf : List Char → Option Nat
  | [] => none
  | '0' :: 'x' :: ch :: cs => digitsFrom 16 0 (ch :: cs)
  | cs => digitsFrom 10 0 cs

/-- A number operand below `bound`. -/
def numTok (bound : Nat) : Token → Option Nat
  | .word cs => (numberOf cs).bind fun n => if n < bound then some n else none
  | _ => none

/-- `<u8>`. -/
def byteTok (t : Token) : Option Byte := (numTok 256 t).map (BitVec.ofNat 8)

/-- `<u16>`. -/
def wordTok (t : Token) : Option Word := (numTok 65536 t).map (BitVec.ofNat 16)

/-- `<0|1>`. -/
def bitTok (t : Token) : Option Bool := (numTok 2 t).map (· == 1)

/-- `<ack|nack|data>`. -/
def typeTok : Token → Option PacketType
  | .word ['a', 'c', 'k'] => some .ack
  | .word ['n', 'a', 'c', 'k'] => some .nack
  | .word ['d', 'a', 't', 'a'] => some .data
  | _ => none

/-- Byte operands between commas. -/
def byteItems : List Token → Option (List Byte)
  | [t] => (byteTok t).map ([·])
  | t :: .comma :: rest => do
    let b ← byteTok t
    let bs ← byteItems rest
    some (b :: bs)
  | _ => none

/-- The byte code of an ASCII character. -/
def asciiByte (ch : Char) : Option Byte := if ch.toNat < 128 then some (BitVec.ofNat 8 ch.toNat) else none

/-- `<bytes>`: a bracketed list, which may be empty, or a double-quoted ASCII string. -/
def bytesToks : List Token → Option (List Byte)
  | [.str cs] => cs.mapM asciiByte
  | [.lbracket, .rbracket] => some []
  | .lbracket :: rest =>
    if rest.getLast? = some .rbracket then byteItems rest.dropLast else none
  | _ => none

/-- The operands `<ack|nack|data>, <u16>, <bytes>`. -/
def packetToks (mk : PacketType → Word → List Byte → Instr) : List Token → Option (List Instr)
  | t :: .comma :: sq :: .comma :: rest => do
    let t ← typeTok t
    let sq ← wordTok sq
    let p ← bytesToks rest
    some [mk t sq p]
  | _ => none

/-! ## Commands -/

/-- The mnemonics of R92 and R93 and how each reads its operands. -/
def commandRows : List (String × (List Token → Option (List Instr))) :=
  [("reset", fun ts => if ts = [] then some [.reset] else none),
   ("crc.init", fun ts => if ts = [] then some [.crcInit] else none),
   ("crc.bit", fun ts => match ts with | [t] => (bitTok t).map ([.crcBit ·]) | _ => none),
   ("crc.byte", fun ts => match ts with | [t] => (byteTok t).map ([.crcByte ·]) | _ => none),
   ("crc.read", fun ts => if ts = [] then some [.crcRead] else none),
   ("encode", packetToks .encode),
   ("decode", fun ts => (bytesToks ts).map ([.decode ·])),
   ("transmit", packetToks .transmit),
   ("receive", fun ts => if ts = [] then some [.receive] else none),
   ("status", fun ts => if ts = [] then some [.readStatus] else none),
   ("nack.clear", fun ts => if ts = [] then some [.clearNack] else none),
   ("crc.bytes", fun ts => ((byteItems ts).or (bytesToks ts)).map crcBytes),
   ("send.ack", fun ts => match ts with | [t] => (wordTok t).map sendAck | _ => none),
   ("send.nack", fun ts => match ts with | [t] => (wordTok t).map sendNack | _ => none),
   ("send.data", fun ts =>
      match ts with
      | t :: .comma :: rest => (wordTok t).bind fun sq => (bytesToks rest).map (sendData sq)
      | _ => none)]

/-- The commands a line's tokens stand for: none on a blank or comment line, more than one for `crc.bytes`. -/
def parseTokens : List Token → Option (List Instr)
  | [] => some []
  | .word m :: ts => (commandRows.find? fun row => row.1.toList == m).bind fun row => row.2 ts
  | _ => none

/-- One line. -/
def assembleLine (line : List Char) : Option (List Instr) := (lexLine .between line).bind parseTokens

/-- A program text, one command per line. -/
def assemble (text : List Char) : Option (List Instr) :=
  ((text.splitOn '\n').mapM assembleLine).map List.flatten

end Sys2Proof.Asm
end

