-- ==== Sys2Proof/Syntax/HostView.lean ====
section
/-! DEFINITION. The host's view: how the calls of the source's interface map onto commands (20_memory.md R52). -/

namespace Sys2Proof

/-- The source's calls that touch the block (R52). -/
inductive HostCall where
  /-- The codec's `encode(type, sequence, payload)`. -/
  | codecEncode (t : PacketType) (sq : Word) (p : List Byte)
  /-- The codec's `decode(bytes)`. -/
  | codecDecode (f : List Byte)
  /-- The Receive Engine's `try_receive_one()`. -/
  | tryReceiveOne
  /-- The Send Engine's write of a framed packet. -/
  | writePacket (t : PacketType) (sq : Word) (p : List Byte)
  /-- A read of `last_acked` or `pending_nack`. -/
  | readAckState
  /-- The Send Engine's "clear `pending_nack`". -/
  | clearPendingNack
  deriving DecidableEq, Repr

/-- The command of a call (R52). -/
def HostCall.command : HostCall → Instr
  | .codecEncode t sq p => .encode t sq p
  | .codecDecode f => .decode f
  | .tryReceiveOne => .receive
  | .writePacket t sq p => .transmit t sq p
  | .readAckState => .readStatus
  | .clearPendingNack => .clearNack

end Sys2Proof
end

