-- ==== Sys2Proof/Tests/Slice0.lean ====
section
/-! SUPPORT. Small tests: ill-formed terms refused, words of the spec decoded, one step per instruction against
95_test_vectors.md (the V and W numbers), and a witness for every statement that has hypotheses. -/

namespace Sys2Proof.Tests

open Sys2Proof.Machine

/-! ## Helpers -/

/-- `Data(0, "ABCDEFGH")`, V30. -/
def v30 : List Byte := [0x03, 0x00, 0x00, 0x00, 0x41, 0x42, 0x43, 0x44, 0x45, 0x46, 0x47, 0x48, 0x48, 0xE0]
/-- `Data(1, "IJ")`, V31. -/
def v31 : List Byte := [0x03, 0x00, 0x01, 0x00, 0x49, 0x4A, 0x00, 0x00, 0x00, 0x00, 0x00, 0x00, 0x71, 0xD0]
/-- `Data(2, "XY")`, V32. -/
def v32 : List Byte := [0x03, 0x00, 0x02, 0x00, 0x58, 0x59, 0x00, 0x00, 0x00, 0x00, 0x00, 0x00, 0x8C, 0x40]
/-- `Ack(0)`, V35. -/
def v35 : List Byte := [0x01, 0x00, 0x00, 0x00, 0x00, 0x00, 0x00, 0x00, 0x00, 0x00, 0x00, 0x00, 0xBF, 0xC0]
/-- `Ack(1)`, V36. -/
def v36 : List Byte := [0x01, 0x00, 0x01, 0x00, 0x00, 0x00, 0x00, 0x00, 0x00, 0x00, 0x00, 0x00, 0x19, 0x40]
/-- `Nack(0)`, V39. -/
def v39 : List Byte := [0x02, 0x00, 0x00, 0x00, 0x00, 0x00, 0x00, 0x00, 0x00, 0x00, 0x00, 0x00, 0x5E, 0x90]
/-- `Nack(1)`, V40. -/
def v40 : List Byte := [0x02, 0x00, 0x01, 0x00, 0x00, 0x00, 0x00, 0x00, 0x00, 0x00, 0x00, 0x00, 0xF8, 0x10]
/-- `Nack(5)`, V42. -/
def v42 : List Byte := [0x02, 0x00, 0x05, 0x00, 0x00, 0x00, 0x00, 0x00, 0x00, 0x00, 0x00, 0x00, 0x20, 0x30]
/-- `Ack(7)` with payload `11 22`, V45. -/
def v45 : List Byte := [0x01, 0x00, 0x07, 0x00, 0x11, 0x22, 0x00, 0x00, 0x00, 0x00, 0x00, 0x00, 0x2B, 0xA0]
/-- A valid frame of type 4, V53. -/
def v53 : List Byte := [0x04, 0x00, 0x00, 0x00, 0x00, 0x00, 0x00, 0x00, 0x00, 0x00, 0x00, 0x00, 0xBD, 0x20]
/-- A valid frame of type 0x0100, V54. -/
def v54 : List Byte := [0x00, 0x01, 0x05, 0x00, 0x00, 0x00, 0x00, 0x00, 0x00, 0x00, 0x00, 0x00, 0x45, 0xA0]
/-- V30 with byte 4 bit 0 flipped, V73. -/
def v73 : List Byte := [0x03, 0x00, 0x00, 0x00, 0x40, 0x42, 0x43, 0x44, 0x45, 0x46, 0x47, 0x48, 0x48, 0xE0]

/-- The configuration of the vectors (`B = 4`), and that configuration with another payload length. -/
def cfg (d : Nat) : Config := ⟨d, 4, 0x2110, 0x0000⟩

/-- Draws that let reads and writes succeed; reads of up to `k` bytes; a write that fails after `j` bytes. -/
def okDraw : Draw := ⟨14, none⟩
def shortDraw (k : Nat) : Draw := ⟨k, none⟩
def failDraw (j : Nat) : Draw := ⟨14, some j⟩

/-- The reset state with these bytes on RX and these draws in place. -/
def onRx (f : List Byte) (d : Draw) : State := { State.reset with rx := f, draw := d }

/-- The reset state about to run these commands. -/
def issuing (ks : List Command) (d : Draw) : State :=
  { State.reset with inputs := ks.map (Input.command · d) }

/-- The state an outcome carries (a stop is impossible here and gives the reset state). -/
def after : Host.Outcome State Fault Refusal → State
  | .next s => s
  | .fault _ => .reset
  | .refused _ => .reset

/-! ## WellFormed refuses ill-formed packets (R80) -/

theorem test_wf_ack_short : (Instr.ack 0 (zeros 7)).wf = false := by decide
theorem test_wf_nack_long : (Instr.nack 0 (zeros 9)).wf = false := by decide
theorem test_wf_data_empty : (Instr.data 0 []).wf = false := by decide
theorem test_wf_data : (Instr.data 0 (zeros 8)).wf = true := by decide

/-! ## Decoding: one word per constructor, from R85's table and V31, V40, V45 -/

theorem test_decode_reset : decode (.command ⟨0x01, []⟩) = .ok .reset := by decide
theorem test_decode_crcInit : decode (.command ⟨0x10, []⟩) = .ok .crcInit := by decide
theorem test_decode_crcBit : decode (.command ⟨0x11, [.num 1]⟩) = .ok (.crcBit true) := by decide
theorem test_decode_crcByte : decode (.command ⟨0x12, [.num 0x31]⟩) = .ok (.crcByte 0x31) := by decide
theorem test_decode_crcRead : decode (.command ⟨0x13, []⟩) = .ok .crcRead := by decide
theorem test_decode_encode :
    decode (.command ⟨0x20, [.num 3, .num 0, .bytes [0x41]]⟩) = .ok (.encode .data 0 [0x41]) := by decide
theorem test_decode_decode : decode (.command ⟨0x21, [.bytes [1, 2]]⟩) = .ok (.decode [1, 2]) := by decide
theorem test_decode_transmit :
    decode (.command ⟨0x22, [.num 2, .num 0xFFFF, .bytes []]⟩) = .ok (.transmit .nack 0xFFFF []) := by decide
theorem test_decode_receive : decode (.command ⟨0x30, []⟩) = .ok .receive := by decide
theorem test_decode_readStatus : decode (.command ⟨0x31, []⟩) = .ok .readStatus := by decide
theorem test_decode_clearNack : decode (.command ⟨0x32, []⟩) = .ok .clearNack := by decide
theorem test_decode_ack : decode (.packet v45) = .ok (.ack 7 [0x11, 0x22, 0, 0, 0, 0, 0, 0]) := by decide +kernel
theorem test_decode_nack : decode (.packet v40) = .ok (.nack 1 (zeros 8)) := by decide +kernel
theorem test_decode_data : decode (.packet v31) = .ok (.data 1 [0x49, 0x4A, 0, 0, 0, 0, 0, 0]) := by decide +kernel

/-- V84, V85, and a packet of 13 bytes, of a bad residue, of type 0x0100 (V54: the header is little-endian). -/
theorem test_decode_rejects :
    decode (.command ⟨0x00, []⟩) = .error (.reservedOpcode 0x00) ∧
    decode (.command ⟨0x14, []⟩) = .error (.reservedOpcode 0x14) ∧
    decode (.command ⟨0x11, [.num 2]⟩) = .error (.illFormedOperand 0x11) ∧
    decode (.command ⟨0x20, [.num 4, .num 0, .bytes []]⟩) = .error (.illFormedOperand 0x20) ∧
    decode (.command ⟨0x30, [.num 0]⟩) = .error (.illFormedOperand 0x30) ∧
    decode (.packet (v30.take 13)) = .error (.wrongLength 13) ∧
    decode (.packet v73) = .error (.nonzeroResidue 0x1660) ∧
    decode (.packet v54) = .error (.reservedType 0x0100) := by decide +kernel

/-- Every row of the opcode table: its word decodes to its instruction. -/
theorem test_table_words :
    [(8, 0x01), (8, 0x10), (8, 0x11), (8, 0x12), (8, 0x13), (8, 0x20), (8, 0x21), (8, 0x22), (8, 0x30), (8, 0x31),
      (8, 0x32), (16, 1), (16, 2), (16, 3)].map (fun r => decodeTableWord r.1 r.2) =
    [.reset, .crcInit, .crcBit false, .crcByte 0, .crcRead, .encode .ack 0 [], .decode [], .transmit .ack 0 [],
      .receive, .readStatus, .clearNack, .ack 0 (zeros 8), .nack 0 (zeros 8), .data 0 (zeros 8)].map some := by
  decide +kernel

/-- A packet-type row's word placed for fetching runs that row. -/
theorem test_fetch_nack : after (step (State.reset.withFetchWord 16 2)) =
    { State.reset with nackPending := true, response := some (.nackSeen 0), draw := okDraw } := by decide +kernel

/-! ## The CRC unit -/

/-- V5, V8 and V6: the bit shifted out of bit 15 brings POLY in. -/
theorem test_crcBit : crcBitStep 0x2110 0x8000 false = 0x2110 ∧ crcBitStep 0x2110 0xFFFF true = 0xDEEF ∧
    (after (exec (.crcBit true) { State.reset with crc := 0x8000 })).crc = 0x2111 := by decide +kernel

/-- V16, V17, V19. -/
theorem test_crcByte : (after (exec (.crcByte 0x00) { State.reset with crc := 0x8000 })).crc = 0xDB20 ∧
    crcByteStep 0x2110 0xFFFF 0x00 = 0x7230 ∧ crcByteStep 0x2110 0x1234 0x56 = 0x2556 := by decide +kernel

/-- V20. -/
theorem test_crcInit : (after (exec .crcInit { State.reset with crc := 0xDB20 })).crc = 0x0000 := by decide

/-- R113: the register as it stands. -/
theorem test_crcRead : (after (exec .crcRead { State.reset with crc := 0x0041 })).response = some (.okCrc 0x0041) := by
  decide

/-- V22, V23, V24: the check value for POLY = 0x2110, its residue law, and CRC-16/XMODEM's for POLY = 0x1021. -/
theorem test_check_value :
    let s : List Byte := [0x31, 0x32, 0x33, 0x34, 0x35, 0x36, 0x37, 0x38, 0x39]
    crcOf 0x2110 0 s = 0xF3E9 ∧ crcOf 0x2110 0 (s ++ zeros 2) = 0x5E30 ∧ crcOf 0x2110 0 (s ++ [0x5E, 0x30]) = 0 ∧
      crcOf 0x1021 0 (s ++ zeros 2) = 0x31C3 := by decide +kernel

/-- Entries of the table of 95_test_vectors.md section 2. -/
theorem test_crcTable : [0x01, 0x02, 0x35, 0x80, 0xBE, 0xFF].map (crcTable 0x2110) =
    [0x2110, 0x4220, 0x5030, 0xDB20, 0xC1B0, 0x8D30] := by decide +kernel

/-! ## The framer and parser -/

/-- V34, and V46's FORMAT_ERROR. -/
theorem test_encode :
    (after (exec (.encode .data 0xFFFF (List.replicate 8 0xFF)) .reset)).response =
      some (.okFrame [0x03, 0x00, 0xFF, 0xFF, 0xFF, 0xFF, 0xFF, 0xFF, 0xFF, 0xFF, 0xFF, 0xFF, 0xE8, 0xA0]) ∧
    (after (exec (.encode .data 0 (zeros 9)) .reset)).response = some .formatError := by decide +kernel

/-- V47, V50, V51: other payload lengths. -/
theorem test_encode_other_lengths :
    encodePacket (cfg 1) .data 0 [0x5A] = [0x03, 0x00, 0x00, 0x00, 0x5A, 0x9D, 0x40] ∧
    encodePacket (cfg 4) .ack 1 [] = [0x01, 0x00, 0x01, 0x00, 0x00, 0x00, 0x00, 0x00, 0xBC, 0x70] ∧
    (encodePacket (cfg 16) .data 0 [0x30, 0x31, 0x32, 0x33, 0x34, 0x35, 0x36, 0x37, 0x38, 0x39, 0x41, 0x42, 0x43,
      0x44, 0x45, 0x46]).drop 20 = [0x6A, 0x00] := by decide +kernel

/-- V57 (fields returned although invalid) and V59 (byte order). -/
theorem test_decode :
    (after (exec (.decode (v35.set 13 0xD0)) .reset)).response = some (.okDecoded 1 0 (zeros 8) false) ∧
    (after (exec (.decode v54) .reset)).response = some (.okDecoded 0x0100 0x0005 (zeros 8) true) := by decide +kernel

/-- V60 to V62. -/
theorem test_decode_lengths :
    [zeros 13, zeros 15, []].map (fun f => (after (exec (.decode f) .reset)).response) =
      List.replicate 3 (some .formatError) := by decide +kernel

/-- R136's example, and a failed write that leaves a strict prefix although the draw names more bytes. -/
theorem test_transmit :
    (after (exec (.transmit .data 1 [0x49, 0x4A]) (onRx [] okDraw))).tx = v31 ∧
    (after (exec (.transmit .ack 0 []) (onRx [] (failDraw 99)))).tx = v35.take 13 := by decide +kernel

/-! ## RECEIVE, on the configuration of the vectors, and the packet types -/

/-- V64: everything one acceptance does. -/
theorem test_receive_accepts : receivePacket (cfg 8) (onRx v30 okDraw) =
    { onRx [] okDraw with
      expectedSeq := 1, delivered := [⟨0, [0x41, 0x42, 0x43, 0x44, 0x45, 0x46, 0x47, 0x48]⟩], tx := v35,
      response := some (.dataAccepted 0 0 true) } := by decide +kernel

/-- V77, V73, V53 corrupted (R209's example), V75, V63. -/
theorem test_receive_other_outcomes :
    (after (exec .receive (onRx v31 (shortDraw 5)))).rx = [0x4A, 0, 0, 0, 0, 0, 0, 0x71, 0xD0] ∧
    (after (exec .receive (onRx v73 okDraw))).response = some .checksumError ∧
    (after (exec .receive (onRx (v53.set 13 0x21) okDraw))).response = some .checksumError ∧
    (after (exec .receive (onRx v53 okDraw))).response = some (.unknownType 4 0) ∧
    (after (exec .receive (onRx (v30.take 13) okDraw))).rx = v30.take 13 := by decide +kernel

/-- V45 received (V70), and the row itself: an older Ack moves LAST_ACKED back (V69). -/
theorem test_ack : (after (exec .receive (onRx v45 okDraw))).lastAcked = 7 ∧
    (after (exec (.ack 2 (zeros 8)) { State.reset with lastAcked := 5 })).lastAcked = 2 := by decide +kernel

/-- V71, and V72: only the latest Nack is kept. -/
theorem test_nack : (after (exec .receive (onRx v40 okDraw))).nackValue = some 1 ∧
    (after (exec (.nack 9 (zeros 8)) { State.reset with nackPending := true, nackSeq := 3 })).nackValue = some 9 := by
  decide +kernel

/-- V67: the wrap, in slot 3 of 4; V66: a duplicate is Nacked, not acknowledged. -/
theorem test_data :
    dataAction (cfg 8) 0xFFFF (zeros 8) { onRx [] okDraw with expectedSeq := 0xFFFF } =
      { onRx [] okDraw with
        expectedSeq := 0, delivered := [⟨3, zeros 8⟩], response := some (.dataAccepted 0xFFFF 3 true),
        tx := [0x01, 0x00, 0xFF, 0xFF, 0x00, 0x00, 0x00, 0x00, 0x00, 0x00, 0x00, 0x00, 0x1A, 0xF0] } ∧
    after (exec (.data 4 (zeros 8)) { onRx [] okDraw with expectedSeq := 5 }) =
      { onRx [] okDraw with expectedSeq := 5, response := some (.dataOutOfOrder 4 5 true), tx := v42 } := by
  decide +kernel

/-- V78: a failed write of the Ack leaves the acceptance standing. -/
theorem test_data_failed_write :
    dataAction (cfg 8) 0 (zeros 8) (onRx [] (failDraw 3)) =
      { onRx [] (failDraw 3) with
        expectedSeq := 1, delivered := [⟨0, zeros 8⟩], tx := [0x01, 0x00, 0x00],
        response := some (.dataAccepted 0 0 false) } := by decide +kernel

/-! ## Control -/

/-- V80, with the channels left alone. -/
theorem test_reset :
    after (exec .reset { onRx v30 okDraw with
      crc := 0xDB20, expectedSeq := 5, lastAcked := 4, nackPending := true, nackSeq := 3, tx := v35 }) =
    { onRx v30 okDraw with nackSeq := 3, tx := v35, response := some .ok } := by decide +kernel

/-- V81, and a pending Nack. -/
theorem test_readStatus :
    (after (exec .readStatus .reset)).response = some (.okStatus 0x0000 0xFFFF none) ∧
    (after (exec .readStatus { State.reset with nackPending := true, nackSeq := 7 })).response =
      some (.okStatus 0x0000 0xFFFF (some 7)) := by decide

/-- V82. -/
theorem test_clearNack :
    (after (exec .clearNack { State.reset with nackPending := true, nackSeq := 7 })).nackValue = none := by decide

/-- V84 and V85: refused by the step, with no other effect. -/
theorem test_illegal :
    after (step (issuing [⟨0x14, []⟩] okDraw)) =
      { State.reset with draw := okDraw, response := some (.illegalCommand 0x14) } ∧
    (after (step (issuing [⟨0x11, [.num 2]⟩] okDraw))).response = some (.illegalCommand 0x11) := by decide

/-! ## Launch premises (R232) -/

/-- An end at launch with these commands and arrivals to come. -/
def atLaunch (is : List Input) : State := { State.resetOn (cfg 8) with inputs := is }

/-- The sender of P2's first packet, and the receiver it arrives at. -/
def sender : State :=
  atLaunch [.command ⟨0x22, [.num 3, .num 0, .bytes [0x41, 0x42, 0x43, 0x44, 0x45, 0x46, 0x47, 0x48]]⟩ okDraw]
def receiver : State := atLaunch [.arrive v30, .command ⟨0x30, []⟩ okDraw]

/-- The peer's first packet arrives first; its Ack is lost whole. -/
theorem test_launch : launchPremises (cfg 8) (cfg 8) sender receiver 0 0 := by
  refine ⟨⟨rfl, rfl, rfl⟩, by decide, by decide, ⟨⟨rfl, rfl, rfl, rfl⟩, rfl, rfl, by decide⟩,
    ⟨⟨rfl, rfl, rfl, rfl⟩, rfl, rfl, by decide⟩, ⟨rfl, .inr ?_⟩, ⟨rfl, .inl ?_⟩⟩
  · refine ⟨[v35], [none], ?_, by decide +kernel, rfl, nofun, by decide, Nat.dvd_zero _, trivial⟩
    simp only [List.forall_mem_singleton]
    exact ⟨.ack, 0, [], by decide, by decide +kernel⟩
  · exact ⟨v30, ⟨.data, 0, [0x41, 0x42, 0x43, 0x44, 0x45, 0x46, 0x47, 0x48], by decide, by decide +kernel⟩,
      by decide +kernel, .inl (by decide)⟩

/-- A whole read keeps RX aligned, and a short read of 5 bytes (P5, step 3) does not. -/
theorem test_launch_short_read :
    State.takesWholePackets (cfg 8) 2 receiver ∧
    ¬ State.takesWholePackets (cfg 8) 2 (atLaunch [.arrive v30, .command ⟨0x30, []⟩ (shortDraw 5)]) :=
  ⟨⟨Nat.dvd_zero _, by decide +kernel, trivial⟩, fun h => absurd h.2.1 (by decide +kernel)⟩

/-- A byte that comes before the peer's first packet is no clean channel. -/
theorem test_launch_stray_byte : ¬ firstPacketFirst (cfg 8) sender (atLaunch [.arrive (0xFF :: v30)]) := by
  rintro ⟨f, ⟨t, sq, p, hp, rfl⟩, h, h'⟩
  have hs : sender.sent (cfg 8) = v30 := by decide +kernel
  have ha : (atLaunch [.arrive (0xFF :: v30)]).arrivals = 0xFF :: v30 := rfl
  have hl : (encodePacket (cfg 8) t sq p).length = v30.length := encodePacket_length hp
  rw [hs] at h
  rw [h.eq_of_length hl, ha] at h'
  revert h'
  decide

/-! ## Text (R92, R93) and the host's view (R52) -/

theorem test_assemble :
    Asm.assemble "crc.bytes 0x31, 50 ; two\n\nencode data, 0x0001, \"IJ\"\ndecode []\nsend.nack 7".toList =
      some [.crcByte 0x31, .crcByte 50, .encode .data 1 [0x49, 0x4A], .decode [], .transmit .nack 7 []] := by
  decide +kernel
theorem test_assemble_rejects : Asm.assembleLine "crc.bit 2".toList = none ∧
    Asm.assembleLine "encode syn, 0, []".toList = none := by decide +kernel
theorem test_hostview : HostCall.tryReceiveOne.command = .receive := by decide

/-! ## Witnesses: for each statement with hypotheses, concrete values that meet them together -/

theorem witness_StepRunsDecodedCommand :
    (issuing [⟨0x12, [.num 255]⟩] okDraw).inputs = .command ⟨0x12, [.num 255]⟩ okDraw :: [] ∧
      decode (.command ⟨0x12, [.num 255]⟩) = .ok (.crcByte 255) := by decide

theorem witness_StepRunsDecodedPacket :
    ({ onRx (v31 ++ [7]) okDraw with inputs := [.command ⟨0x30, []⟩ okDraw] }).inputs =
        .command ⟨0x30, []⟩ okDraw :: [] ∧
      Config.here.N ≤ okDraw.read ∧ (onRx (v31 ++ [7]) okDraw).rx = v31 ++ [7] ∧
      decode (.packet v31) = .ok (.data 1 [0x49, 0x4A, 0, 0, 0, 0, 0, 0]) := by decide +kernel

theorem witness_EnvironmentActsBetweenCommands :
    State.reset.inputs = [] ∧
    ({ State.reset with inputs := [.arrive [1]] }).inputs = .arrive [1] :: [] ∧
    ({ State.reset with inputs := [.take 3], tx := [1] }).inputs = .take 3 :: [] ∧
    ({ State.reset with inputs := [.powerOn 9] }).inputs = .powerOn 9 :: [] := by decide

/-- Boundary opcodes of each reserved range; an operand just outside each type, of the wrong kind, and too many. -/
theorem witness_IllegalCommandsHaveNoEffect :
    (issuing [⟨0x14, []⟩] okDraw).inputs = .command ⟨0x14, []⟩ okDraw :: [] ∧
    (∀ op ∈ [0x00, 0x02, 0x0F, 0x14, 0x1F, 0x23, 0x2F, 0x33, (0xFF : Byte)],
      op = 0x00 ∨ (0x02 ≤ op ∧ op ≤ 0x0F) ∨ (0x14 ≤ op ∧ op ≤ 0x1F) ∨ (0x23 ≤ op ∧ op ≤ 0x2F) ∨ 0x33 ≤ op) ∧
    ((0x30 : Byte) ∈ [0x01, 0x10, 0x13, 0x30, 0x31, (0x32 : Byte)] ∧ [Operand.num 0] ≠ []) ∧
    (∀ l ∈ [[Operand.num 2], [.bytes [1]], [], [.num 0, .num 0]], ∀ n < 2, l ≠ [.num n]) ∧
    (∀ l ∈ [[Operand.num 256], [.bytes []]], ∀ n < 256, l ≠ [.num n]) ∧
    (∀ f, [Operand.num 0] ≠ [.bytes f]) ∧
    (∀ l ∈ [[Operand.num 4, .num 0, .bytes []], [.num 0, .num 0, .bytes []], [.num 1, .num 65536, .bytes []],
        [.num 1, .num 0, .num 0]],
      ∀ t sq p, (t = 1 ∨ t = 2 ∨ t = 3) → sq < 65536 → l ≠ [.num t, .num sq, .bytes p]) ∧
    (∃ e, decode (.command ⟨0x30, [.num 0]⟩) = .error e) := by
  refine ⟨rfl, by decide, by decide, by decide, ?_, nofun, ?_, _, rfl⟩ <;> simp only [List.forall_mem_cons]
  · refine ⟨?_, nofun, nofun⟩
    rintro n hn ⟨⟩
    omega
  · refine ⟨?_, ?_, ?_, nofun, nofun⟩ <;> (rintro t sq p ht hs ⟨⟩; omega)

theorem witness_CommandsDecodeToThemselves :
    encode (.encode .nack 0xFFFF [5]) = .command ⟨0x20, [.num 2, .num 0xFFFF, .bytes [5]]⟩ := by decide

theorem witness_PacketsDecodeToThemselves :
    (Instr.ack 7 [0x11, 0x22, 0, 0, 0, 0, 0, 0]).wfOn (cfg 8) = true ∧
      encodeOn (cfg 8) (.ack 7 [0x11, 0x22, 0, 0, 0, 0, 0, 0]) = .packet v45 := by decide +kernel

theorem witness_DecodedWordsAreEncodings :
    decodeOn (cfg 8) (.packet v40) = .ok (.nack 1 (zeros 8)) ∧
      decodeOn (cfg 8) (.command ⟨0x11, [.num 0]⟩) = .ok (.crcBit false) := by decide +kernel

theorem witness_CrcBitShiftsOneBit :
    (exec (.crcBit true) { State.reset with crc := 0x8000 } =
      .next (after (exec (.crcBit true) { State.reset with crc := 0x8000 }))) ∧
    2 ≤ 2 ∧ (issuing [⟨0x11, [.num 2]⟩] okDraw).inputs = .command ⟨0x11, [.num 2]⟩ okDraw :: [] :=
  ⟨rfl, by decide, rfl⟩

theorem witness_StreamingCommandsComputeCrc :
    (issuing [⟨0x10, []⟩, ⟨0x12, [.num 0x41]⟩, ⟨0x13, []⟩] okDraw).inputs = .command ⟨0x10, []⟩ okDraw ::
      ([(0x41 : Byte)].map (fun v => Input.command ⟨0x12, [.num v.toNat]⟩ okDraw) ++
        .command ⟨0x13, []⟩ okDraw :: []) := by decide

/-- Both sides of the equivalence are met by V30's trailer, and neither by a changed one. -/
theorem witness_ZeroResidueIffTrailerMatches :
    (v30.drop 12).length = 2 ∧ residue (cfg 8) v30 = 0 ∧ v30.drop 12 = trailer (cfg 8) (v30.take 12) ∧
      residue (cfg 8) (v30.take 12 ++ [0x48, 0xE1]) ≠ 0 := by decide +kernel

theorem witness_LowNibbleIsTheLastFourBits :
    (∀ i < 4, (0x2110 : Word).getLsbD i = false) ∧ 4 ≤ [true, false, true, true].length := by decide

theorem witness_ResidueIsLinearInErrors : (zeros 14).length = v30.length := by decide

/-- The last frame bit of V30. -/
theorem witness_SingleBitErrorsAreDetected :
    (cfg 8).POLY ≠ 0 ∧ validFlag (cfg 8) v30 = true ∧ (zeros 13 ++ [1]).length = v30.length ∧ 111 < 8 * v30.length ∧
      frameBits (zeros 13 ++ [1]) = (List.replicate (8 * v30.length) false).set 111 true := by decide +kernel

/-- A burst of length 12, in the first two bytes of V30. -/
theorem witness_ShortBurstsAreDetected :
    (cfg 8).POLY = 0x2110 ∧ validFlag (cfg 8) v30 = true ∧ ([0x80, 0x10] ++ zeros 12).length = v30.length ∧
      frameBits ([0x80, 0x10] ++ zeros 12) = List.replicate 0 false ++
        ([true] ++ List.replicate 10 false ++ [true]) ++ List.replicate 100 false ∧
      ([true] ++ List.replicate 10 false ++ [true]).length ≤ 12 ∧
      true ∈ [true] ++ List.replicate 10 false ++ [true] := by decide +kernel

/-- R118(e)'s pattern, missed 4 bits before the end and detected 3 bits before it; another pattern of length 13. -/
theorem witness_MissedBurstsOfLengthThirteen :
    let q := [true, false, false, true, false, false, false, false, true, false, false, false, true]
    validFlag (cfg 8) v30 = true ∧ q.length = 13 ∧ q.head? = some true ∧ q.getLast? = some true ∧
      frameBits (zeros 11 ++ [0x01, 0x21, 0x10]) = List.replicate 95 false ++ q ++ List.replicate 4 false ∧
      validFlag (cfg 8) (xorBytes v30 (zeros 11 ++ [0x01, 0x21, 0x10])) = true ∧
      frameBits (zeros 12 ++ [0x90, 0x88]) = List.replicate 96 false ++ q ++ List.replicate 3 false ∧
      validFlag (cfg 8) (xorBytes v30 (zeros 12 ++ [0x90, 0x88])) = false := by decide +kernel

theorem witness_DoubleBitErrorsAreDetected :
    (cfg 8).POLY = 0x2110 ∧ validFlag (cfg 8) v30 = true ∧ v30.length = 14 ∧ ([0x80] ++ zeros 12 ++ [1]).length = 14 ∧
      0 < 111 ∧ 111 < 112 ∧
      frameBits ([0x80] ++ zeros 12 ++ [1]) = ((List.replicate 112 false).set 0 true).set 111 true := by decide +kernel

/-- Payload lengths 8 (allowed) and 9 (not), the boundary of R134 and R136 (EncodeLaysOutThePacket,
EncodeCommandReturnsTheFrame, DecodeOfEncodeIsValid). -/
theorem witness_payload_lengths :
    (zeros 8).length ≤ (cfg 8).D ∧ (zeros 8).length ≤ 8 ∧ 8 < (zeros 9).length ∧ (cfg 8).POLY = 0x2110 := by decide

theorem witness_DecodeCommandReturnsTheFields : v30.length = 14 ∧ (zeros 13).length ≠ 14 := by decide

theorem witness_TransmitWritesOnePacket :
    8 < (zeros 9).length ∧ (zeros 8).length ≤ 8 ∧ okDraw.write = none ∧ (failDraw 0).write = some 0 := by decide

/-- Both sides of R138's example: "IJ" and "IJ" with a zero byte. -/
theorem witness_EncodedPacketsAgreeIffFieldsAgree :
    [0x49, 0x4A].length ≤ (cfg 8).D ∧ [0x49, 0x4A, 0x00].length ≤ (cfg 8).D ∧
      encodePacket (cfg 8) .data 1 [0x49, 0x4A] = encodePacket (cfg 8) .data 1 [0x49, 0x4A, 0x00] := by decide +kernel

theorem witness_ValidityDoesNotDependOnType : (cfg 8).CRC_INIT = 0 ∧ (zeros 8).length ≤ (cfg 8).D := by decide

/-- 13 bytes, and 14 bytes with a read of 13 and of 0. -/
theorem witness_ReceiveIntake :
    (onRx (zeros 13) okDraw).rx.length < 14 ∧ 14 ≤ (onRx v30 (shortDraw 13)).rx.length ∧
      (onRx v30 (shortDraw 13)).draw.read < 14 ∧ (onRx v30 (shortDraw 0)).draw.read < 14 := by decide

theorem witness_ChecksumErrorHasOneCause :
    (exec .receive (onRx v73 okDraw) = .next (after (exec .receive (onRx v73 okDraw)))) ∧
    14 ≤ (onRx v73 okDraw).rx.length ∧ 14 ≤ (onRx v73 okDraw).draw.read ∧
      residue Config.here ((onRx v73 okDraw).rx.take 14) ≠ 0 ∧ v73.length = 14 ∧ residue Config.here v73 ≠ 0 :=
  ⟨rfl, by decide +kernel, by decide +kernel, by decide +kernel, by decide +kernel, by decide +kernel⟩

theorem witness_AckSetsLastAcked :
    14 ≤ (onRx v45 okDraw).rx.length ∧ 14 ≤ (onRx v45 okDraw).draw.read ∧
      residue Config.here ((onRx v45 okDraw).rx.take 14) = 0 ∧ typeField (onRx v45 okDraw).rx = 1 := by decide +kernel

theorem witness_NackSetsPendingNack :
    14 ≤ (onRx v40 okDraw).rx.length ∧ 14 ≤ (onRx v40 okDraw).draw.read ∧
      residue Config.here ((onRx v40 okDraw).rx.take 14) = 0 ∧ typeField (onRx v40 okDraw).rx = 2 := by decide +kernel

/-- A successful write and a failed one. -/
theorem witness_InOrderDataIsAccepted :
    (onRx v30 okDraw).draw.write = none ∧ (onRx v30 (failDraw 3)).draw.write = some 3 ∧
    14 ≤ (onRx v30 okDraw).rx.length ∧ 14 ≤ (onRx v30 okDraw).draw.read ∧ 14 ≤ (onRx v30 (failDraw 3)).draw.read ∧
      residue Config.here ((onRx v30 okDraw).rx.take 14) = 0 ∧ typeField (onRx v30 okDraw).rx = 3 ∧
      seqField (onRx v30 okDraw).rx = (onRx v30 okDraw).expectedSeq := by decide +kernel

theorem witness_OutOfOrderDataIsNacked :
    (onRx v32 okDraw).draw.write = none ∧ (onRx v32 (failDraw 0)).draw.write = some 0 ∧
    (2 : Word) ≠ (onRx v32 okDraw).expectedSeq ∧
    14 ≤ (onRx v32 okDraw).rx.length ∧ 14 ≤ (onRx v32 okDraw).draw.read ∧
      residue Config.here ((onRx v32 okDraw).rx.take 14) = 0 ∧ typeField (onRx v32 okDraw).rx = 3 ∧
      seqField (onRx v32 okDraw).rx ≠ (onRx v32 okDraw).expectedSeq := by decide +kernel

/-- Type 0 (the all-zero packet) and type 4. -/
theorem witness_ReservedTypeIsDropped :
    ∀ f ∈ [zeros 14, v53], 14 ≤ (onRx f okDraw).rx.length ∧ 14 ≤ (onRx f okDraw).draw.read ∧
      residue Config.here ((onRx f okDraw).rx.take 14) = 0 ∧
      (typeField (onRx f okDraw).rx = 0 ∨ 4 ≤ typeField (onRx f okDraw).rx) := by decide +kernel

theorem witness_InOrderStreamIsDelivered :
    14 ≤ okDraw.read ∧ okDraw.write = none ∧ (∀ k < 1, (zeros 8).length ≤ 8) ∧
    ({ onRx (encodePacket Config.here .data 0 (zeros 8) ++ [9]) okDraw with
        inputs := [.command ⟨0x30, []⟩ okDraw] }).inputs = List.replicate 1 (.command ⟨0x30, []⟩ okDraw) ++ [] ∧
    (onRx (encodePacket Config.here .data 0 (zeros 8) ++ [9]) okDraw).rx =
      (List.range 1).flatMap (fun k => encodePacket Config.here .data (0x0000 + BitVec.ofNat 16 k) (zeros 8)) ++ [9] := by
  decide +kernel

theorem witness_SequenceTwoBeforeZeroIsNacked :
    (onRx v32 okDraw).expectedSeq = 0 ∧ 14 ≤ (onRx v32 okDraw).draw.read ∧ (onRx v32 okDraw).draw.write = none ∧
      (onRx v32 okDraw).rx = v32 := by decide

theorem witness_DataIsDeliveredAndAcknowledged :
    [0x49, (0x4A : Byte)].length ≤ 8 ∧ (onRx [] okDraw).draw.write = none ∧ 14 ≤ (onRx [] okDraw).draw.read ∧
      (onRx [] okDraw).rx = [] ∧ (onRx [] okDraw).expectedSeq = 0 := by decide

theorem witness_LatestAckAndNackStand :
    14 ≤ okDraw.read ∧ ([] : List Byte).length ≤ 8 ∧
      (issuing [⟨0x30, []⟩, ⟨0x30, []⟩, ⟨0x31, []⟩] okDraw).inputs =
        [.command ⟨0x30, []⟩ okDraw, .command ⟨0x30, []⟩ okDraw, .command ⟨0x31, []⟩ okDraw] ++ [] ∧
      (onRx (v39 ++ v40) okDraw).rx = encodePacket Config.here .nack 0 [] ++ encodePacket Config.here .nack 1 [] ∧
      (onRx (v36 ++ v35) okDraw).rx = encodePacket Config.here .ack 1 [] ++ encodePacket Config.here .ack 0 [] := by
  decide +kernel

/-- Every `exec i s = .next t` hypothesis (ReceiveConsumesByOutcome, RegistersHaveTheirWriters, TxGainsAtMostOnePacket,
ChannelsAreTouchedOnlyAsListed, OneDeliveryPerAcceptedPacket, ReceiveReadsOnlyTheHead): an acceptance, which changes
EXPECTED_SEQ, RX, TX and the delivery port. -/
theorem witness_exec_next :
    exec .receive (onRx v30 okDraw) = .next (after (exec .receive (onRx v30 okDraw))) ∧
    14 ≤ (onRx v30 okDraw).rx.length ∧
    (after (exec .receive (onRx v30 okDraw))).expectedSeq ≠ (onRx v30 okDraw).expectedSeq ∧
    (after (exec .receive (onRx v30 okDraw))).tx ≠ (onRx v30 okDraw).tx :=
  ⟨rfl, by decide +kernel, by decide +kernel, by decide +kernel⟩

/-- The other registers' writers, each with a change. -/
theorem witness_RegistersHaveTheirWriters :
    (after (exec .crcInit { State.reset with crc := 1 })).crc ≠ 1 ∧
    (after (exec (.ack 3 (zeros 8)) .reset)).lastAcked ≠ State.reset.lastAcked ∧
    (after (exec (.nack 3 (zeros 8)) .reset)).nackPending ≠ State.reset.nackPending ∧
    (after (exec (.nack 3 (zeros 8)) .reset)).nackSeq ≠ State.reset.nackSeq := by decide

theorem witness_ErrorsArePrecise :
    exec (.transmit .ack 0 []) (onRx [] (failDraw 3)) = .next (after (exec (.transmit .ack 0 []) (onRx [] (failDraw 3)))) ∧
    (after (exec (.transmit .ack 0 []) (onRx [] (failDraw 3)))).response = some (.transportError none) ∧
    (Response.transportError none).isError = true :=
  ⟨rfl, by decide +kernel, by decide⟩

theorem witness_PacketCommandsIgnoreCrc :
    (Instr.readStatus ≠ .reset ∧ Instr.readStatus ≠ .crcInit ∧ (∀ b, Instr.readStatus ≠ .crcBit b) ∧
      (∀ x, Instr.readStatus ≠ .crcByte x) ∧ Instr.readStatus ≠ .crcRead) ∧
    exec .readStatus .reset = .next { State.reset with response := some (.okStatus 0 0xFFFF none) } :=
  ⟨⟨by decide, by decide, nofun, nofun, by decide⟩, rfl⟩

theorem witness_HiddenNackSeqIsUnobservable :
    State.reset.eraseHidden = ({ State.reset with nackSeq := 9 }).eraseHidden ∧
      State.reset ≠ { State.reset with nackSeq := 9 } := by decide

theorem witness_WellFormednessIsKept :
    State.reset.Inv ∧ step State.reset = .next State.reset ∧ (cfg 3).wf ∧ (State.resetOn (cfg 3)).InvOn (cfg 3) ∧
      stepOn (cfg 3) (State.resetOn (cfg 3)) = .next (State.resetOn (cfg 3)) :=
  ⟨⟨nofun, nofun⟩, rfl, by decide, ⟨nofun, nofun⟩, rfl⟩

/-- A packet of another instance, `D = 2`. -/
theorem witness_InstancesUseTheirParameters :
    let s : State := onRx (encodePacket (cfg 2) .data 0 [0x49, 0x4A]) okDraw
    4 + (cfg 2).D + 2 ≤ s.rx.length ∧ 4 + (cfg 2).D + 2 ≤ s.draw.read ∧ s.draw.write = none ∧
      crcOf (cfg 2).POLY (cfg 2).CRC_INIT (s.rx.take (4 + (cfg 2).D + 2)) = 0 ∧ typeField s.rx = 3 ∧
      seqField s.rx = s.expectedSeq ∧ (State.resetOn (cfg 2)).rx.length < 4 + (cfg 2).D + 2 ∧
      [0x49, (0x4A : Byte)].length ≤ (cfg 2).D ∧ (cfg 2).D < (zeros 3).length ∧
      (zeros 8).length = 4 + (cfg 2).D + 2 := by decide +kernel

theorem witness_StepIsTheDefaultInstance :
    (issuing [⟨0x10, []⟩] okDraw).inputs = .command ⟨0x10, []⟩ okDraw :: [] ∧
      decodeOn (cfg 3) (.command ⟨0x10, []⟩) = .ok .crcInit := by decide

end Sys2Proof.Tests
end

section
/-! PROOFS. The framer's statements (41_framer.md), with the laws of the CRC's low bits they rest on. -/

namespace Sys2Proof

/-! ### The low bits of the CRC register (40_crc.md R117)

Where `POLY` has a zero bit the step only shifts, so below `POLY`'s lowest set bit the register is a shift register of the
message. -/

theorem getLsbD_crcBitStep {poly : Word} {i : Nat} (hpoly : poly.getLsbD i = false) (r : Word) (b : Bool) :
    (crcBitStep poly r b).getLsbD i = (r.shiftConcat b).getLsbD i := by
  unfold crcBitStep
  split
  · rw [BitVec.getLsbD_xor, hpoly, Bool.xor_false]
  · rfl

theorem crcBits_append_singleton (poly r : Word) (m : List Bool) (b : Bool) :
    crcBits poly r (m ++ [b]) = crcBitStep poly (crcBits poly r m) b := crcBits_append poly r m [b]

/-- Bit `i` of the register is the message bit `i` places from the end. -/
theorem getLsbD_crcBits_eq_getD {poly : Word} {i : Nat} (hpoly : ∀ j ≤ i, poly.getLsbD j = false) (hi : i < 16)
    (r : Word) {m : List Bool} (hm : i < m.length) :
    (crcBits poly r m).getLsbD i = m.getD (m.length - 1 - i) false := by
  induction m using List.reverseRecOn generalizing i with
  | nil => simp at hm
  | append_singleton m b ih =>
    rw [crcBits_append_singleton, getLsbD_crcBitStep (hpoly i le_rfl), BitVec.getLsbD_shiftConcat]
    cases i with
    | zero => simp
    | succ i =>
      have hm' : i < m.length := by simpa using hm
      have hbit := ih (fun j hj => hpoly j (by omega)) (by omega) hm'
      have hidx : (m ++ [b]).length - 1 - (i + 1) = m.length - 1 - i := by simp; omega
      rw [hidx, List.getD_append _ _ _ _ (by omega), ← hbit]
      simp [hi]

theorem getD_bitsOf {i : Nat} (hi : i < 8) (v : Byte) : (bitsOf v).getD (8 - 1 - i) false = v.getLsbD i := by
  interval_cases i <;> rfl

theorem crcOf_append_singleton (poly init : Word) (s : List Byte) (v : Byte) :
    crcOf poly init (s ++ [v]) = crcBits poly (crcOf poly init s) (bitsOf v) := crcOf_append poly init s [v]

/-- Below `POLY`'s lowest set bit a CRC carries the bits of the last byte. -/
theorem getLsbD_crcOf_append_singleton {poly : Word} {i : Nat} (hpoly : ∀ j ≤ i, poly.getLsbD j = false) (hi : i < 8)
    (init : Word) (s : List Byte) (v : Byte) : (crcOf poly init (s ++ [v])).getLsbD i = v.getLsbD i := by
  rw [crcOf_append_singleton, getLsbD_crcBits_eq_getD hpoly (by omega) _ (by simpa using hi), bitsOf_length,
    getD_bitsOf hi]

/-- The default generator's low nibble is zero (R7). -/
theorem getLsbD_default_POLY {i : Nat} (hi : i < 4) : (0x2110 : Word).getLsbD i = false := by
  interval_cases i <;> rfl

/-! ### The layout of a packet (R130, R131) -/

theorem packetBody_eq_bytes (c : Config) (ty sq : Word) (p : List Byte) :
    packetBody c ty sq p = [loByte ty, hiByte ty, loByte sq, hiByte sq] ++ p ++ zeros (c.D - p.length) := by
  simp [packetBody, littleEndian, padded]

/-- Settles O23: the body is laid out as R130 says, the trailer is R131's by definition, and the CRC's low nibble is that
of the last zero byte of the zeroed trailer. -/
theorem encodeLaysOutThePacket : Obligations.EncodeLaysOutThePacket := by
  intro c t sq p hp tv body sum
  have hbody : packetBody c (wireType t) sq p = body := by
    rw [packetBody_eq_bytes]
    cases t <;> rfl
  refine ⟨?_, encodePacket_length hp, fun hpoly i hi => ?_⟩
  · rw [encodePacket, frameOf, hbody]
    rfl
  · have hsum : sum = crcOf c.POLY c.CRC_INIT ((body ++ [0x00]) ++ [0x00]) := by
      rw [List.append_assoc]
      rfl
    rw [hsum, getLsbD_crcOf_append_singleton (fun j hj => hpoly ▸ getLsbD_default_POLY (by omega)) (by omega)]
    exact BitVec.getLsbD_zero

end Sys2Proof
end

section
/-! PROOFS. The statements of the receive family (42_receive.md): RECEIVE of a valid packet is the type dispatch on the
fields at the head of RX. -/

namespace Sys2Proof

/-! ### The fields of a packet at the head of a longer byte string -/

theorem byteAt_take {n i : Nat} (h : i < n) (f : List Byte) : byteAt (f.take n) i = byteAt f i := by
  simp [byteAt, List.getD_eq_getElem?_getD, List.getElem?_take_of_lt h]

theorem typeField_take {n : Nat} (h : 2 ≤ n) (f : List Byte) : typeField (f.take n) = typeField f := by
  rw [typeField, byteAt_take (by omega), byteAt_take (by omega), typeField]

theorem seqField_take {n : Nat} (h : 4 ≤ n) (f : List Byte) : seqField (f.take n) = seqField f := by
  rw [seqField, byteAt_take (by omega), byteAt_take (by omega), seqField]

theorem payloadField_take (c : Config) (f : List Byte) : payloadField c (f.take c.N) = payloadField c f := by
  rw [payloadField, List.drop_take, List.take_take, Nat.min_eq_left (by unfold Config.N; omega), payloadField]

end Sys2Proof

namespace Sys2Proof.Machine

/-! ### Type dispatch (R153) -/

@[simp] theorem dispatchPacket_ack (c : Config) (sq : Word) (pl : List Byte) (s : State) :
    dispatchPacket c 0x0001 sq pl s = ackAction sq pl s := rfl

@[simp] theorem dispatchPacket_nack (c : Config) (sq : Word) (pl : List Byte) (s : State) :
    dispatchPacket c 0x0002 sq pl s = nackAction sq pl s := rfl

/-! ### RECEIVE of a valid packet (R150) -/

/-- A whole packet with a zero residue is consumed and dispatched on its fields. -/
theorem receivePacket_of_residue_eq_zero {c : Config} {s : State} (hrx : c.N ≤ s.rx.length) (hread : c.N ≤ s.draw.read)
    (hres : residue c (s.rx.take c.N) = 0x0000) :
    receivePacket c s =
      dispatchPacket c (typeField s.rx) (seqField s.rx) (payloadField c s.rx) { s with rx := s.rx.drop c.N } := by
  have hN : 4 ≤ c.N := by unfold Config.N; omega
  have hconsume : s.rxConsume c.N = { s with rx := s.rx.drop c.N } := by
    rw [State.rxConsume, State.readCount_full hread hrx]
  obtain ⟨hshort, -⟩ | ⟨-, hshort, -⟩ | ⟨-, -, hbad, -⟩ | ⟨-, -, -, heq⟩ := receivePacket_cases c s
  · omega
  · omega
  · exact absurd hres hbad
  · rw [heq, hconsume, typeField_take (by omega), seqField_take hN, payloadField_take]

/-- The same for this machine's RECEIVE. -/
theorem exec_receive_of_residue_eq_zero {s : State} (hrx : 14 ≤ s.rx.length) (hread : 14 ≤ s.draw.read)
    (hres : residue Config.here (s.rx.take 14) = 0x0000) :
    exec .receive s =
      .next (dispatchPacket Config.here (typeField s.rx) (seqField s.rx) (payloadField Config.here s.rx)
        { s with rx := s.rx.drop 14 }) :=
  congrArg Host.Outcome.next (receivePacket_of_residue_eq_zero (c := Config.here) hrx hread hres)

/-! ### Acks and Nacks (R154, R155) -/

theorem ackAction_eq (sq : Word) (pl : List Byte) (s : State) :
    ackAction sq pl s = { s with lastAcked := sq, response := some (.ackSeen sq) } := rfl

theorem nackAction_eq (sq : Word) (pl : List Byte) (s : State) :
    nackAction sq pl s = { s with nackPending := true, nackSeq := sq, response := some (.nackSeen sq) } := rfl

/-- Settles O32: the type dispatch of a valid Ack runs the Ack action on the consumed state. -/
theorem ackSetsLastAcked : Obligations.AckSetsLastAcked := by
  refine ⟨fun sq pl s => congrArg Host.Outcome.next (ackAction_eq sq pl s), fun s hrx hread hres hty => ?_⟩
  rw [exec_receive_of_residue_eq_zero hrx hread hres, hty, dispatchPacket_ack, ackAction_eq]

/-- Settles O33: the type dispatch of a valid Nack runs the Nack action on the consumed state. -/
theorem nackSetsPendingNack : Obligations.NackSetsPendingNack := by
  refine ⟨fun sq pl s => congrArg Host.Outcome.next (nackAction_eq sq pl s), fun s hrx hread hres hty => ?_⟩
  rw [exec_receive_of_residue_eq_zero hrx hread hres, hty, dispatchPacket_nack, nackAction_eq]

end Sys2Proof.Machine
end

section
/-! PROOFS. The statement of the exceptions family (60_exceptions.md): CHECKSUM_ERROR is what RECEIVE answers to a whole
packet with a nonzero residue, and what nothing else answers. -/

namespace Sys2Proof.Machine

/-! ### RECEIVE (R152) -/

/-- A whole packet with a nonzero residue is consumed, and the error is all there is (R203). -/
theorem receivePacket_of_residue_ne_zero {c : Config} {s : State} (hrx : c.N ≤ s.rx.length) (hread : c.N ≤ s.draw.read)
    (hres : residue c (s.rx.take c.N) ≠ 0x0000) :
    receivePacket c s = { s with rx := s.rx.drop c.N, response := some .checksumError } := by
  obtain ⟨hshort, -⟩ | ⟨-, hshort, -⟩ | ⟨-, -, -, heq⟩ | ⟨-, -, hgood, -⟩ := receivePacket_cases c s
  · omega
  · omega
  · rw [heq, State.rxConsume, State.readCount_full hread hrx, State.respond]
  · exact absurd hgood hres

theorem dataAction_response_ne_checksumError (c : Config) (sq : Word) (pl : List Byte) (s : State) :
    (dataAction c sq pl s).response ≠ some .checksumError := by
  obtain ⟨-, heq⟩ | ⟨-, heq⟩ := dataAction_cases c sq pl s
  · simp [heq, acceptData]
  · simp [heq, nackData]

/-- No action on a valid packet is an error, whatever its type (R153). -/
theorem dispatchPacket_response_ne_checksumError (c : Config) (ty sq : Word) (pl : List Byte) (s : State) :
    (dispatchPacket c ty sq pl s).response ≠ some .checksumError := by
  obtain ⟨-, heq⟩ | ⟨-, heq⟩ | ⟨-, heq⟩ | ⟨-, -, -, heq⟩ := dispatchPacket_cases c ty sq pl s
  · simp [heq, ackAction]
  · simp [heq, nackAction]
  · rw [heq]
    exact dataAction_response_ne_checksumError c sq pl s
  · simp [heq]

theorem receivePacket_response_eq_checksumError_iff {c : Config} {s : State} :
    (receivePacket c s).response = some .checksumError ↔
      c.N ≤ s.rx.length ∧ c.N ≤ s.draw.read ∧ residue c (s.rx.take c.N) ≠ 0x0000 := by
  refine ⟨fun h => ?_, fun ⟨hrx, hread, hres⟩ => by rw [receivePacket_of_residue_ne_zero hrx hread hres]⟩
  obtain ⟨-, heq⟩ | ⟨-, -, heq⟩ | ⟨hrx, hread, hres, -⟩ | ⟨-, -, -, heq⟩ := receivePacket_cases c s
  · simp [heq] at h
  · simp [heq] at h
  · exact ⟨hrx, hread, hres⟩
  · exact absurd (heq ▸ h) (dispatchPacket_response_ne_checksumError _ _ _ _ _)

/-! ### The framer's commands (R134 to R136) -/

theorem encodeCommand_response_ne_checksumError (c : Config) (t : PacketType) (sq : Word) (p : List Byte) (s : State) :
    (encodeCommand c t sq p s).response ≠ some .checksumError := by
  unfold encodeCommand
  split <;> simp

theorem decodeFrame_of_length {c : Config} {f : List Byte} (h : f.length = c.N) (s : State) :
    decodeFrame c f s =
      s.respond (.okDecoded (typeField f) (seqField f) (payloadField c f) (validFlag c f)) := if_pos h

theorem decodeFrame_of_length_ne {c : Config} {f : List Byte} (h : f.length ≠ c.N) (s : State) :
    decodeFrame c f s = s.respond .formatError := if_neg h

theorem decodeFrame_response_ne_checksumError (c : Config) (f : List Byte) (s : State) :
    (decodeFrame c f s).response ≠ some .checksumError := by
  by_cases h : f.length = c.N
  · simp [decodeFrame_of_length h]
  · simp [decodeFrame_of_length_ne h]

theorem transmitPacket_response_ne_checksumError (c : Config) (t : PacketType) (sq : Word) (p : List Byte) (s : State) :
    (transmitPacket c t sq p s).response ≠ some .checksumError := by
  unfold transmitPacket
  split
  · simp
  · split <;> simp

theorem validFlag_of_residue_ne_zero {c : Config} {f : List Byte} (h : residue c f ≠ 0x0000) : validFlag c f = false :=
  beq_false_of_ne h

/-! ### All instructions (R203) -/

/-- Only RECEIVE raises CHECKSUM_ERROR. -/
theorem exec_response_ne_checksumError {i : Instr} {s t : State} (hi : i ≠ .receive) (h : exec i s = .next t) :
    t.response ≠ some .checksumError := by
  cases i with
  | receive => exact absurd rfl hi
  | encode ty sq p =>
    obtain rfl := Host.Outcome.next.inj h
    exact encodeCommand_response_ne_checksumError _ ty sq p s
  | decode f =>
    obtain rfl := Host.Outcome.next.inj h
    exact decodeFrame_response_ne_checksumError _ f s
  | transmit ty sq p =>
    obtain rfl := Host.Outcome.next.inj h
    exact transmitPacket_response_ne_checksumError _ ty sq p s
  | data sq pl =>
    obtain rfl := Host.Outcome.next.inj h
    exact dataAction_response_ne_checksumError _ sq pl s
  | reset | crcInit | crcBit | crcByte | crcRead | readStatus | clearNack | ack | nack =>
    obtain rfl := Host.Outcome.next.inj h
    nofun

/-- Settles O31: RECEIVE's cases give its one cause and its effect, every other instruction answers something else, and
DECODE reports the residue in its `valid` field. -/
theorem checksumErrorHasOneCause : Obligations.ChecksumErrorHasOneCause := by
  refine ⟨fun i s t h => ?_, fun s hrx hread hres => ?_, fun f s hlen hres => ?_⟩
  · by_cases hi : i = .receive
    · subst hi
      obtain rfl := Host.Outcome.next.inj h
      exact receivePacket_response_eq_checksumError_iff.trans (and_iff_right rfl).symm
    · exact iff_of_false (exec_response_ne_checksumError hi h) fun ⟨hreceive, _⟩ => hi hreceive
  · exact congrArg Host.Outcome.next (receivePacket_of_residue_ne_zero (c := Config.here) hrx hread hres)
  · refine ⟨typeField f, seqField f, payloadField Config.here f, congrArg Host.Outcome.next ?_⟩
    rw [decodeFrame_of_length hlen, validFlag_of_residue_ne_zero hres, State.respond]

end Sys2Proof.Machine
end

section
/-! PROOFS. What bytes do to a clear CRC register, and the linearity of the CRC of a byte string (40_crc.md R115). -/

namespace Sys2Proof

/-! ### A byte entering a register with a clear high byte -/

theorem crcBitStep_of_high_bit_clear {poly r : Word} (h : r.getLsbD 15 = false) (b : Bool) :
    crcBitStep poly r b = r.shiftConcat b :=
  if_neg (h ▸ Bool.false_ne_true)

/-- While the high bits are clear `POLY` does not enter: the message bits move in and the register's bits move up. -/
theorem getLsbD_crcBits_of_high_bits_clear {poly r : Word} {m : List Bool} (hm : m.length ≤ 16)
    (h : ∀ i, 16 - m.length ≤ i → r.getLsbD i = false) {i : Nat} (hi : i < 16) :
    (crcBits poly r m).getLsbD i =
      if i < m.length then m.getD (m.length - 1 - i) false else r.getLsbD (i - m.length) := by
  induction m generalizing r with
  | nil => simp
  | cons b m ih =>
    rw [List.length_cons] at hm h
    have hnext : ∀ j, 16 - m.length ≤ j → (r.shiftConcat b).getLsbD j = false := fun j hj => by
      simp [BitVec.getLsbD_shiftConcat, h (j - 1) (by omega), show j ≠ 0 by omega]
    rw [crcBits_cons, crcBitStep_of_high_bit_clear (h 15 (by omega)), ih (by omega) hnext,
      BitVec.getLsbD_shiftConcat, List.length_cons]
    obtain hlt | rfl | hgt := Nat.lt_trichotomy i m.length
    · simp [hlt, show i < m.length + 1 by omega, show m.length - i = m.length - 1 - i + 1 by omega]
    · simp
    · simp [show ¬ i < m.length by omega, show ¬ i < m.length + 1 by omega, show i - m.length ≠ 0 by omega,
        show i - m.length < 16 by omega, show i - m.length - 1 = i - (m.length + 1) by omega]

theorem crcByteStep_wordOf_zero (poly : Word) (lo v : Byte) :
    crcByteStep poly (wordOf 0 lo) v = wordOf lo v := by
  have hclear : ∀ i, 16 - (bitsOf v).length ≤ i → (wordOf 0 lo).getLsbD i = false := fun i hi => by
    rw [bitsOf_length] at hi
    simp [getLsbD_wordOf, show ¬ i < 8 by omega]
  apply BitVec.eq_of_getLsbD_eq
  intro i hi
  rw [crcByteStep, getLsbD_crcBits_of_high_bits_clear (by simp) hclear hi, getLsbD_wordOf, getLsbD_wordOf, bitsOf_length]
  by_cases h8 : i < 8
  · simp only [h8, if_true]
    exact getD_bitsOf h8 v
  · simp [h8, show i - 8 < 8 by omega]

theorem crcByteStep_zero (poly : Word) (v : Byte) : crcByteStep poly 0x0000 v = wordOf 0 v :=
  crcByteStep_wordOf_zero poly 0 v

/-- Two bytes fill a clear register (R115). -/
theorem crcOf_zero_two_bytes (poly : Word) (hi lo : Byte) : crcOf poly 0x0000 [hi, lo] = wordOf hi lo := by
  rw [crcOf_cons, crcByteStep_zero, crcOf_cons, crcByteStep_wordOf_zero, crcOf_nil]

theorem crcByteStep_xor (poly r r' : Word) (v v' : Byte) :
    crcByteStep poly (r ^^^ r') (v ^^^ v') = crcByteStep poly r v ^^^ crcByteStep poly r' v' := by
  simp only [crcByteStep, bitsOf_xor]
  exact crcBits_xor poly (bitsOf v) (bitsOf v') rfl r r'

/-- The CRC of the sum of two byte strings of one length is the sum of their CRCs (R115). -/
theorem crcOf_xorBytes (poly r r' : Word) {f e : List Byte} (h : e.length = f.length) :
    crcOf poly (r ^^^ r') (Machine.xorBytes f e) = crcOf poly r f ^^^ crcOf poly r' e := by
  induction f generalizing e r r' with
  | nil =>
    obtain rfl := List.length_eq_zero_iff.1 h
    rfl
  | cons v f ih =>
    obtain ⟨w, e, rfl⟩ := List.exists_cons_of_length_eq_add_one h
    simpa [Machine.xorBytes, crcByteStep_xor] using ih (crcByteStep poly r v) (crcByteStep poly r' w) (by simpa using h)

end Sys2Proof
end

section
/-! PROOFS. The trailer, the table-driven form and the direct form of the CRC (40_crc.md R115 to R118; 41_framer.md R131,
R133). -/

namespace Sys2Proof
open Sys2Proof.Machine

/-! ### The trailer (R115(b), R131, R133) -/

/-- What stands in the last two bytes is added to the CRC of the message that has zeros there. -/
theorem crcOf_append_two_bytes (poly r : Word) (s : List Byte) (hi lo : Byte) :
    crcOf poly r (s ++ [hi, lo]) = crcOf poly r (s ++ zeros 2) ^^^ wordOf hi lo := by
  calc crcOf poly r (s ++ [hi, lo])
      = crcOf poly (crcOf poly r s ^^^ 0x0000) (xorBytes (zeros 2) [hi, lo]) := by
        simp [xorBytes, List.replicate, crcOf_append]
    _ = crcOf poly (crcOf poly r s) (zeros 2) ^^^ crcOf poly 0x0000 [hi, lo] := crcOf_xorBytes poly _ _ rfl
    _ = crcOf poly r (s ++ zeros 2) ^^^ wordOf hi lo := by rw [crcOf_append, crcOf_zero_two_bytes]

theorem bigEndian_wordOf (hi lo : Byte) : bigEndian (wordOf hi lo) = [hi, lo] := by simp [bigEndian]

theorem bigEndian_eq_iff {hi lo : Byte} {v : Word} : [hi, lo] = bigEndian v ↔ wordOf hi lo = v := by
  refine ⟨fun h => ?_, fun h => h ▸ (bigEndian_wordOf hi lo).symm⟩
  simp only [bigEndian, List.cons.injEq, and_true] at h
  rw [h.1, h.2, wordOf_hi_lo]

/-- Settles O15: the trailer bytes are added to the checksum of the body, and the sum is zero exactly when they are
equal. -/
theorem zeroResidueIffTrailerMatches : Obligations.ZeroResidueIffTrailerMatches := by
  intro c body tr htr
  obtain ⟨hi, lo, rfl⟩ := List.length_eq_two.1 htr
  rw [residue, crcOf_append_two_bytes, trailer, bigEndian_eq_iff, eq_comm (a := wordOf hi lo)]
  exact BitVec.xor_eq_zero_iff

theorem residue_append_trailer (c : Config) (body : List Byte) : residue c (body ++ trailer c body) = 0x0000 :=
  (zeroResidueIffTrailerMatches c body _ rfl).2 rfl

theorem residue_frameOf (c : Config) (ty sq : Word) (p : List Byte) : residue c (frameOf c ty sq p) = 0x0000 :=
  residue_append_trailer c _

theorem validFlag_iff {c : Config} {f : List Byte} : validFlag c f = true ↔ residue c f = 0x0000 := beq_iff_eq

/-! ### The table-driven and direct forms (R115, R116) -/

theorem wordOf_zero_xor_zero_wordOf (hi lo : Byte) : wordOf hi 0 ^^^ wordOf 0 lo = wordOf hi lo := by
  apply BitVec.eq_of_getLsbD_eq
  intro i hi
  rw [BitVec.getLsbD_xor, getLsbD_wordOf, getLsbD_wordOf, getLsbD_wordOf]
  split <;> simp

/-- The high byte is what the table is asked for; the low byte and the message byte only move up. -/
theorem crcByteStep_eq_crcByteTable (poly r : Word) (v : Byte) : crcByteStep poly r v = crcByteTable poly r v := by
  calc crcByteStep poly r v
      = crcByteStep poly (wordOf (hiByte r) 0 ^^^ wordOf 0 (loByte r)) (0 ^^^ v) := by
        rw [wordOf_zero_xor_zero_wordOf, wordOf_hi_lo]; simp
    _ = crcTable poly (hiByte r) ^^^ crcByteStep poly (wordOf 0 (loByte r)) v := crcByteStep_xor poly _ _ 0 v
    _ = crcByteTable poly r v := by rw [crcByteStep_wordOf_zero, BitVec.xor_comm, crcByteTable]

theorem wordOf_loByte (r : Word) (v : Byte) : wordOf (loByte r) v = (r <<< 8) ||| v.setWidth 16 := by
  apply BitVec.eq_of_getLsbD_eq
  intro i hi
  rw [getLsbD_wordOf]
  by_cases h : i < 8
  · simp [h, hi]
  · simp [h, hi, loByte, show i - 8 < 8 by omega, BitVec.getLsbD_eq_getElem (show i - 8 < 16 by omega),
      BitVec.getLsbD_of_ge v i (by omega)]

theorem wordOf_hiByte_zero (r : Word) : wordOf (hiByte r) 0 = r &&& 0xFF00 := by
  apply BitVec.eq_of_getLsbD_eq
  intro i hi
  rw [getLsbD_wordOf, BitVec.getLsbD_and]
  interval_cases i <;> simp [hiByte]

/-! ### The direct form (R115) -/

/-- The 16 zero bits of a zeroed trailer. -/
def zeroTrailerBits : List Bool := List.replicate 16 false

/-- The step of the direct form: the message bit meets the bit that leaves the register. -/
def directStep (poly r : Word) (b : Bool) : Word := if (r.getLsbD 15 ^^ b) then (r <<< 1) ^^^ poly else r <<< 1

theorem shiftConcat_false (r : Word) : r.shiftConcat false = r <<< 1 := by
  apply BitVec.eq_of_getLsbD_eq
  intro i hi
  cases i <;> simp [hi]

theorem directStep_eq (poly r : Word) (b : Bool) :
    directStep poly r b = crcBitStep poly r false ^^^ if b then poly else 0 := by
  rw [directStep, crcBitStep, shiftConcat_false]
  cases r.getLsbD 15 <;> cases b <;> simp

/-- `x^16` leaves the remainder `POLY`. -/
theorem crcBits_cons_zeroTrailerBits (poly : Word) (b : Bool) :
    crcBits poly 0x0000 (b :: zeroTrailerBits) = if b then poly else 0 := by
  have hbytes : crcBits poly 0x0000 (b :: zeroTrailerBits) =
      crcBitStep poly (crcOf poly 0x0000 [if b then 0x80 else 0x00, 0x00]) false := by cases b <;> rfl
  rw [hbytes, crcOf_zero_two_bytes]
  cases b with
  | false => rfl
  | true => exact BitVec.zero_xor

/-- What the register holds and a bit put before the zeroed trailer add up. -/
theorem crcBits_cons_zeroTrailerBits_eq_xor (poly r : Word) (b : Bool) :
    crcBits poly r (b :: zeroTrailerBits) =
      crcBits poly r (false :: zeroTrailerBits) ^^^ crcBits poly 0x0000 (b :: zeroTrailerBits) := by
  have hz : List.zipWith xor (false :: zeroTrailerBits) (b :: zeroTrailerBits) = b :: zeroTrailerBits := by
    cases b <;> rfl
  have h := crcBits_xor poly (false :: zeroTrailerBits) (b :: zeroTrailerBits) rfl r 0#16
  rwa [hz, BitVec.xor_zero] at h

theorem foldl_directStep_eq_crcBits (poly : Word) (m : List Bool) :
    m.foldl (directStep poly) 0x0000 = crcBits poly 0x0000 (m ++ zeroTrailerBits) := by
  induction m using List.reverseRecOn with
  | nil => exact (crcBits_cons_zeroTrailerBits poly false).symm
  | append_singleton m b ih =>
    have hshift : false :: zeroTrailerBits = zeroTrailerBits ++ [false] := rfl
    rw [List.foldl_concat, ih, directStep_eq, List.append_assoc, List.singleton_append,
      crcBits_append poly _ m (b :: zeroTrailerBits), crcBits_cons_zeroTrailerBits_eq_xor, hshift,
      crcBits_append_singleton, crcBits_cons_zeroTrailerBits, crcBits_append]

theorem frameBits_append_zeros_two (a : List Byte) : frameBits (a ++ zeros 2) = frameBits a ++ zeroTrailerBits := by
  rw [frameBits, List.flatMap_append]
  rfl

theorem crcOf_eq_crcBits_frameBits (poly r : Word) (s : List Byte) : crcOf poly r s = crcBits poly r (frameBits s) :=
  crcOf_eq_crcBits poly r s

/-- Settles O17: a message bit that meets the register's leaving bit does what it does 16 steps after entering bit 0. -/
theorem checksumEqualsDirectForm : Obligations.ChecksumEqualsDirectForm := by
  intro poly a
  rw [crcOf_eq_crcBits_frameBits, frameBits_append_zeros_two, ← foldl_directStep_eq_crcBits]
  rfl

/-- Settles O16: below `POLY`'s lowest set bit the register is a shift register of the message. -/
theorem lowNibbleIsTheLastFourBits : Obligations.LowNibbleIsTheLastFourBits := by
  intro poly init hpoly
  have hbelow : ∀ i < 4, ∀ j ≤ i, poly.getLsbD j = false := fun i hi j hj => hpoly j (by omega)
  refine ⟨fun m hm i hi => ?_, fun a i hi => ?_, fun a v i hi => ?_⟩
  · exact getLsbD_crcBits_eq_getD (hbelow i hi) (by omega) init (by omega)
  · have hlast : a ++ zeros 2 = (a ++ [0x00]) ++ [0x00] := by simp [List.replicate]
    rw [hlast, getLsbD_crcOf_append_singleton (hbelow i hi) (by omega)]
    exact BitVec.getLsbD_zero
  · exact getLsbD_crcOf_append_singleton (hbelow i hi) (by omega) init a v

/-- Settles O18: the CRC is linear in the register and the message together. -/
theorem residueIsLinearInErrors : Obligations.ResidueIsLinearInErrors := by
  intro c f e hlen
  have h := crcOf_xorBytes c.POLY c.CRC_INIT 0#16 hlen
  rwa [BitVec.xor_zero] at h

end Sys2Proof
end

section
/-! PROOFS. The two decoders and the encoder (30_encoding.md; 41_framer.md R130 to R133, R137): what each decoder takes is
the encoding of what it gives, and each encoding is read back. -/

namespace Sys2Proof

/-! ### Packets -/

theorem littleEndian_wordOf (hi lo : Byte) : littleEndian (wordOf hi lo) = [lo, hi] := by simp [littleEndian]

/-- Header and payload of a packet, laid out again, are the packet less its trailer. -/
theorem packetBody_fields {c : Config} {f : List Byte} (hf : f.length = c.N) :
    packetBody c (typeField f) (seqField f) (payloadField c f) = f.take (4 + c.D) := by
  have hpl := payloadField_length hf
  match f, hf with
  | b0 :: b1 :: b2 :: b3 :: g, hf =>
    rw [packetBody, padded_of_length hpl, typeField, seqField, littleEndian_wordOf, littleEndian_wordOf, payloadField,
      Nat.add_comm 4]
    rfl
  | [], hf | [_], hf | [_, _], hf | [_, _, _], hf => simp [Config.N] at hf <;> omega

/-- A valid packet is the frame of its own fields: its trailer is the one R131 computes (R133). -/
theorem frameOf_fields {c : Config} {f : List Byte} (hf : f.length = c.N) (hres : residue c f = 0x0000) :
    frameOf c (typeField f) (seqField f) (payloadField c f) = f := by
  have hsplit : f.take (4 + c.D) ++ f.drop (4 + c.D) = f := List.take_append_drop _ f
  have htrailer : f.drop (4 + c.D) = trailer c (f.take (4 + c.D)) := by
    refine (zeroResidueIffTrailerMatches c _ _ ?_).1 (hsplit.symm ▸ hres)
    simp [hf, Config.N]
  rw [frameOf, packetBody_fields hf, ← htrailer, hsplit]

/-- The type map of R87 read from a packet type: the row a valid packet of that type is. -/
def packetRow : PacketType → Word → List Byte → Instr
  | .ack => .ack
  | .nack => .nack
  | .data => .data

theorem packetInstr_wireType (t : PacketType) (sq : Word) (pl : List Byte) :
    packetInstr (wireType t) sq pl = .ok (packetRow t sq pl) := by
  cases t <;> rfl

theorem packetInstr_eq_ok {ty sq : Word} {pl : List Byte} {i : Instr} (h : packetInstr ty sq pl = .ok i) :
    ∃ t, ty = wireType t ∧ i = packetRow t sq pl := by
  unfold packetInstr at h
  split_ifs at h with hack hnack hdata
  · exact ⟨.ack, hack, (Except.ok.inj h).symm⟩
  · exact ⟨.nack, hnack, (Except.ok.inj h).symm⟩
  · exact ⟨.data, hdata, (Except.ok.inj h).symm⟩

theorem encodeOn_packetRow (c : Config) (t : PacketType) (sq : Word) (pl : List Byte) :
    encodeOn c (packetRow t sq pl) = .packet (encodePacket c t sq pl) := by
  cases t <;> rfl

theorem wfOn_packetRow {c : Config} {t : PacketType} {sq : Word} {pl : List Byte} :
    (packetRow t sq pl).wfOn c = true ↔ pl.length = c.D := by
  cases t <;> exact beq_iff_eq

theorem encodeOn_eq_packet {c : Config} {i : Instr} {f : List Byte} (h : encodeOn c i = .packet f) :
    ∃ t sq pl, i = packetRow t sq pl ∧ f = encodePacket c t sq pl := by
  cases i with
  | ack sq pl => exact ⟨.ack, sq, pl, rfl, (Encoded.packet.inj h).symm⟩
  | nack sq pl => exact ⟨.nack, sq, pl, rfl, (Encoded.packet.inj h).symm⟩
  | data sq pl => exact ⟨.data, sq, pl, rfl, (Encoded.packet.inj h).symm⟩
  | _ => cases h

theorem decodePacket_encodePacket {c : Config} {p : List Byte} (hp : p.length ≤ c.D) (t : PacketType) (sq : Word) :
    decodePacket c (encodePacket c t sq p) = .ok (packetRow t sq (padded c p)) := by
  rw [decodePacket, if_pos (encodePacket_length hp), encodePacket, if_pos (residue_frameOf c _ sq p), typeField_frameOf,
    seqField_frameOf, payloadField_frameOf hp, packetInstr_wireType]

/-- What the packet decoder takes: `N` bytes, a zero residue, and a type of R87. -/
theorem decodePacket_eq_ok {c : Config} {f : List Byte} {i : Instr} (h : decodePacket c f = .ok i) :
    f.length = c.N ∧ residue c f = 0x0000 ∧ packetInstr (typeField f) (seqField f) (payloadField c f) = .ok i := by
  unfold decodePacket at h
  split_ifs at h with hlen hres
  exact ⟨hlen, hres, h⟩

/-- Settles O7: a frame has a zero residue, and its fields are those it was laid out from. -/
theorem packetsDecodeToThemselves : Obligations.PacketsDecodeToThemselves := by
  intro c i f hwf henc
  obtain ⟨t, sq, pl, rfl, rfl⟩ := encodeOn_eq_packet henc
  have hpl : pl.length = c.D := wfOn_packetRow.1 hwf
  rw [decodeOn, decodePacket_encodePacket hpl.le, padded_of_length hpl]

/-! ### Commands -/

theorem noOperands_eq_ok {i j : Instr} {k : Command} : noOperands i k = .ok j ↔ k.operands = [] ∧ i = j := by
  unfold noOperands
  split <;> simp_all

theorem bitOperand_eq_ok {k : Command} {j : Instr} (h : bitOperand k = .ok j) :
    ∃ b : Bool, k.operands = [.num b.toNat] ∧ j = .crcBit b := by
  unfold bitOperand at h
  split at h
  · split_ifs at h with h0 h1
    · exact ⟨false, by simp_all, (Except.ok.inj h).symm⟩
    · exact ⟨true, by simp_all, (Except.ok.inj h).symm⟩
  · cases h

theorem byteOperand_eq_ok {k : Command} {j : Instr} (h : byteOperand k = .ok j) :
    ∃ v : Byte, k.operands = [.num v.toNat] ∧ j = .crcByte v := by
  unfold byteOperand at h
  split at h
  next n hops =>
    split_ifs at h with hn
    refine ⟨BitVec.ofNat 8 n, ?_, (Except.ok.inj h).symm⟩
    rw [hops, BitVec.toNat_ofNat, Nat.mod_eq_of_lt hn]
  · cases h

theorem bytesOperand_eq_ok {k : Command} {j : Instr} (h : bytesOperand k = .ok j) :
    ∃ f, k.operands = [.bytes f] ∧ j = .decode f := by
  unfold bytesOperand at h
  split at h
  next f hops => exact ⟨f, hops, (Except.ok.inj h).symm⟩
  · cases h

theorem packetOperands_eq_ok {mk : PacketType → Word → List Byte → Instr} {k : Command} {j : Instr}
    (h : packetOperands mk k = .ok j) :
    ∃ t sq p, k.operands = [.num (numOfPacketType t), .num sq.toNat, .bytes p] ∧ j = mk t sq p := by
  unfold packetOperands at h
  split at h
  next n sq p hops =>
    split at h
    next t ht =>
      split_ifs at h with hsq
      refine ⟨t, BitVec.ofNat 16 sq, p, ?_, (Except.ok.inj h).symm⟩
      rw [hops, numOf_packetTypeOfNum ht, BitVec.toNat_ofNat, Nat.mod_eq_of_lt hsq]
    · cases h
  · cases h

theorem command_mk_eq {k : Command} {op : Byte} {ops : List Operand} (hop : k.opcode = op) (hops : k.operands = ops) :
    Encoded.command ⟨op, ops⟩ = .command k := by
  rw [← hop, ← hops]

/-- A command without operands that is taken is that command's record. -/
theorem encodeOn_of_noOperands {c : Config} {k : Command} {op : Byte} {i j : Instr}
    (hi : encodeOn c i = .command ⟨op, []⟩) (hop : k.opcode = op) (h : noOperands i k = .ok j) :
    encodeOn c j = .command k := by
  obtain ⟨hops, rfl⟩ := noOperands_eq_ok.1 h
  rw [hi, command_mk_eq hop hops]

/-- So is an ENCODE or TRANSMIT. -/
theorem encodeOn_of_packetOperands {c : Config} {k : Command} {op : Byte} {mk : PacketType → Word → List Byte → Instr}
    {j : Instr} (hmk : ∀ t sq p, encodeOn c (mk t sq p) =
      .command ⟨op, [.num (numOfPacketType t), .num sq.toNat, .bytes p]⟩)
    (hop : k.opcode = op) (h : packetOperands mk k = .ok j) : encodeOn c j = .command k := by
  obtain ⟨t, sq, p, hops, rfl⟩ := packetOperands_eq_ok h
  rw [hmk, command_mk_eq hop hops]

/-- What the command decoder takes is the record R85 gives the instruction. -/
theorem encodeOn_of_decodeCommand {c : Config} {k : Command} {i : Instr} (h : decodeCommand k = .ok i) :
    encodeOn c i = .command k := by
  unfold decodeCommand at h
  obtain ⟨hop, h⟩ | ⟨-, h⟩ := ite_eq_iff.1 h
  · exact encodeOn_of_noOperands rfl hop h
  obtain ⟨hop, h⟩ | ⟨-, h⟩ := ite_eq_iff.1 h
  · exact encodeOn_of_noOperands rfl hop h
  obtain ⟨hop, h⟩ | ⟨-, h⟩ := ite_eq_iff.1 h
  · obtain ⟨b, hops, rfl⟩ := bitOperand_eq_ok h
    exact command_mk_eq hop hops
  obtain ⟨hop, h⟩ | ⟨-, h⟩ := ite_eq_iff.1 h
  · obtain ⟨v, hops, rfl⟩ := byteOperand_eq_ok h
    exact command_mk_eq hop hops
  obtain ⟨hop, h⟩ | ⟨-, h⟩ := ite_eq_iff.1 h
  · exact encodeOn_of_noOperands rfl hop h
  obtain ⟨hop, h⟩ | ⟨-, h⟩ := ite_eq_iff.1 h
  · exact encodeOn_of_packetOperands (fun _ _ _ => rfl) hop h
  obtain ⟨hop, h⟩ | ⟨-, h⟩ := ite_eq_iff.1 h
  · obtain ⟨f, hops, rfl⟩ := bytesOperand_eq_ok h
    exact command_mk_eq hop hops
  obtain ⟨hop, h⟩ | ⟨-, h⟩ := ite_eq_iff.1 h
  · exact encodeOn_of_packetOperands (fun _ _ _ => rfl) hop h
  obtain ⟨hop, h⟩ | ⟨-, h⟩ := ite_eq_iff.1 h
  · exact encodeOn_of_noOperands rfl hop h
  obtain ⟨hop, h⟩ | ⟨-, h⟩ := ite_eq_iff.1 h
  · exact encodeOn_of_noOperands rfl hop h
  obtain ⟨hop, h⟩ | ⟨-, h⟩ := ite_eq_iff.1 h
  · exact encodeOn_of_noOperands rfl hop h
  · cases h

theorem wfOn_of_encodeOn_eq_command {c : Config} {i : Instr} {k : Command} (h : encodeOn c i = .command k) :
    i.wfOn c = true := by
  cases i with
  | ack | nack | data => cases h
  | _ => rfl

/-- Settles O8: the command decoder takes only records of R85, and the packet decoder only frames of `D`-byte payloads. -/
theorem decodedWordsAreEncodings : Obligations.DecodedWordsAreEncodings := by
  rintro c (k | f) i h
  · have henc : encodeOn c i = .command k := encodeOn_of_decodeCommand h
    exact ⟨wfOn_of_encodeOn_eq_command henc, henc⟩
  · obtain ⟨hlen, hres, hrow⟩ := decodePacket_eq_ok h
    obtain ⟨t, ht, rfl⟩ := packetInstr_eq_ok hrow
    refine ⟨wfOn_packetRow.2 (payloadField_length hlen), ?_⟩
    rw [encodeOn_packetRow, encodePacket, ← ht, frameOf_fields hlen hres]

theorem packetOperands_mk (mk : PacketType → Word → List Byte → Instr) (op : Byte) (t : PacketType) (sq : Word)
    (p : List Byte) :
    packetOperands mk ⟨op, [.num (numOfPacketType t), .num sq.toNat, .bytes p]⟩ = .ok (mk t sq p) := by
  simp [packetOperands, packetTypeOfNum_numOf, sq.isLt]

theorem byteOperand_mk (op : Byte) (v : Byte) : byteOperand ⟨op, [.num v.toNat]⟩ = .ok (.crcByte v) := by
  simp [byteOperand, v.isLt]

/-- A command's record is read back (R85). -/
theorem decodeCommand_of_encode {i : Instr} {k : Command} (h : encode i = .command k) : decodeCommand k = .ok i := by
  cases i with
  | ack | nack | data => cases h
  | crcBit b =>
    cases h
    cases b <;> rfl
  | crcByte v =>
    cases h
    exact byteOperand_mk opCrcByte v
  | encode t sq p =>
    cases h
    exact packetOperands_mk .encode opEncode t sq p
  | transmit t sq p =>
    cases h
    exact packetOperands_mk .transmit opTransmit t sq p
  | reset | crcInit | crcRead | decode | receive | readStatus | clearNack =>
    cases h
    rfl

/-- Settles O6: each command's record carries its opcode and operands in the form the decoder reads. -/
theorem commandsDecodeToThemselves : Obligations.CommandsDecodeToThemselves := fun _ _ h => decodeCommand_of_encode h

/-! ### Frames and their fields (R137 to R139) -/

theorem wireType_injective : Function.Injective wireType := by
  intro t t' h
  cases t <;> cases t' <;> simp [wireType] at h ⊢

/-- Settles O28: a frame is laid out from its type, sequence and padded payload alone, and each is read back from it. -/
theorem encodedPacketsAgreeIffFieldsAgree : Obligations.EncodedPacketsAgreeIffFieldsAgree := by
  intro c t t' sq sq' p p' hp hp'
  constructor
  · intro h
    refine ⟨wireType_injective ?_, ?_, ?_⟩
    · simpa [encodePacket] using congrArg typeField h
    · simpa [encodePacket] using congrArg seqField h
    · have hpl := congrArg (payloadField c) h
      rwa [encodePacket, encodePacket, payloadField_frameOf hp, payloadField_frameOf hp'] at hpl
  · rintro ⟨rfl, rfl, hpad⟩
    have hbody : packetBody c (wireType t) sq p = packetBody c (wireType t) sq p' :=
      congrArg (littleEndian (wireType t) ++ littleEndian sq ++ ·) hpad
    rw [encodePacket, encodePacket, frameOf, frameOf, hbody]

theorem crcOf_zero_zeros (poly : Word) (n : Nat) : crcOf poly 0x0000 (zeros n) = 0x0000 := by
  induction n with
  | zero => rfl
  | succ n ih => rw [zeros, List.replicate_succ, crcOf_cons, crcByteStep_zero]; exact ih

/-- Settles O29: zeros leave a clear register clear, and a frame's trailer matches whatever its type. -/
theorem validityDoesNotDependOnType : Obligations.ValidityDoesNotDependOnType := by
  refine ⟨fun c hinit => validFlag_iff.2 ?_, fun c ty sq p _ => ⟨validFlag_iff.2 (residue_frameOf c ty sq p), ?_⟩⟩
  · rw [residue, hinit, crcOf_zero_zeros]
  · exact typeField_frameOf c ty sq p

end Sys2Proof
end

section
/-! PROOFS. The CRC register as the remainder of a polynomial division over GF(2) (40_crc.md R115). -/

namespace Sys2Proof
open Polynomial Sys2Proof.Machine

/-! ### Registers and messages as polynomials -/

/-- The polynomial of a register: bit `i` is the coefficient of `x^i`. -/
noncomputable def wordPoly (w : Word) : (ZMod 2)[X] := ∑ i ∈ Finset.range 16, if w.getLsbD i then X ^ i else 0

/-- The polynomial of a bit string: the first bit has the highest power. -/
noncomputable def msgPoly (m : List Bool) : (ZMod 2)[X] :=
  ∑ i ∈ Finset.range m.length, if m.getD i false then X ^ (m.length - 1 - i) else 0

/-- `G(x) = x^16 + P(x)` (R13). -/
noncomputable def generator (poly : Word) : (ZMod 2)[X] := X ^ 16 + wordPoly poly

/-- A bit as a coefficient. -/
def bitCoeff (b : Bool) : ZMod 2 := if b then 1 else 0

theorem bitCoeff_injective : Function.Injective bitCoeff := by decide

theorem bitCoeff_xor (a b : Bool) : bitCoeff (a ^^ b) = bitCoeff a + bitCoeff b := by cases a <;> cases b <;> rfl

theorem coeff_wordPoly (w : Word) (i : Nat) : (wordPoly w).coeff i = bitCoeff (w.getLsbD i) := by
  rw [wordPoly, finsetSum_coeff]
  have hterm : ∀ j, (if w.getLsbD j then (X ^ j : (ZMod 2)[X]) else 0).coeff i =
      if j = i then bitCoeff (w.getLsbD i) else 0 := fun j => by
    by_cases hj : j = i
    · subst hj
      cases w.getLsbD j <;> simp [bitCoeff]
    · cases w.getLsbD j <;> simp [coeff_X_pow, hj, Ne.symm hj]
  rw [Finset.sum_congr rfl fun j _ => hterm j, Finset.sum_ite_eq' (Finset.range 16) i]
  split
  · rfl
  · rw [BitVec.getLsbD_of_ge w i (by simp_all)]
    rfl

theorem wordPoly_injective : Function.Injective wordPoly := fun v w h => by
  apply BitVec.eq_of_getLsbD_eq
  intro i _
  apply bitCoeff_injective
  rw [← coeff_wordPoly, ← coeff_wordPoly, h]

@[simp] theorem wordPoly_zero : wordPoly 0x0000 = 0 := by
  ext i
  rw [coeff_wordPoly, coeff_zero]
  exact congrArg bitCoeff BitVec.getLsbD_zero

theorem wordPoly_xor (v w : Word) : wordPoly (v ^^^ w) = wordPoly v + wordPoly w := by
  ext i
  simp only [coeff_add, coeff_wordPoly, BitVec.getLsbD_xor, bitCoeff_xor]

theorem degree_wordPoly_lt (w : Word) : (wordPoly w).degree < (16 : Nat) := by
  rw [degree_lt_iff_coeff_zero]
  intro i hi
  rw [coeff_wordPoly, BitVec.getLsbD_of_ge w i hi]
  rfl

theorem generator_monic (poly : Word) : (generator poly).Monic :=
  monic_X_pow_add (degree_wordPoly_lt poly)

theorem degree_generator (poly : Word) : (generator poly).degree = (16 : Nat) := by
  rw [generator, degree_add_eq_left_of_degree_lt, degree_X_pow]
  exact (degree_X_pow (R := ZMod 2) 16).symm ▸ degree_wordPoly_lt poly

/-- A shift multiplies by `x` and adds the message bit; what leaves bit 15 is `x^16`. -/
theorem wordPoly_shiftConcat (r : Word) (b : Bool) :
    wordPoly (r.shiftConcat b) + C (bitCoeff (r.getLsbD 15)) * X ^ 16 = wordPoly r * X + C (bitCoeff b) := by
  ext i
  simp only [coeff_add, coeff_wordPoly, BitVec.getLsbD_shiftConcat, coeff_C_mul_X_pow, coeff_C]
  cases i with
  | zero => simp
  | succ i =>
    obtain hlt | rfl | hgt := Nat.lt_trichotomy i 15
    · simp [coeff_wordPoly, show i + 1 < 16 by omega, show i ≠ 15 by omega]
    · simp [coeff_wordPoly, bitCoeff]
    · simp [coeff_wordPoly, bitCoeff, show i ≠ 15 by omega, BitVec.getLsbD_of_ge r i (by omega)]

/-- The step of R111: the register times `x` plus the message bit, up to a multiple of `G`. -/
theorem wordPoly_crcBitStep (poly r : Word) (b : Bool) :
    wordPoly (crcBitStep poly r b) + C (bitCoeff (r.getLsbD 15)) * generator poly =
      wordPoly r * X + C (bitCoeff b) := by
  rw [← wordPoly_shiftConcat, crcBitStep, generator]
  cases r.getLsbD 15
  · simp [bitCoeff]
  · simp only [bitCoeff, if_true, wordPoly_xor, C_1, one_mul]
    linear_combination CharTwo.add_self_eq_zero (wordPoly poly)

@[simp] theorem msgPoly_nil : msgPoly [] = 0 := rfl

theorem msgPoly_append_singleton (m : List Bool) (b : Bool) : msgPoly (m ++ [b]) = msgPoly m * X + C (bitCoeff b) := by
  have hterm : ∀ i ∈ Finset.range m.length,
      (if (m ++ [b]).getD i false then (X ^ (m.length - i) : (ZMod 2)[X]) else 0) =
        (if m.getD i false then X ^ (m.length - 1 - i) else 0) * X := fun i hi => by
    have hlt := Finset.mem_range.1 hi
    rw [List.getD_append _ _ _ _ hlt, ite_mul, zero_mul, ← pow_succ, show m.length - 1 - i + 1 = m.length - i by omega]
  rw [msgPoly, List.length_append, List.length_singleton, Finset.sum_range_succ, Nat.add_sub_cancel,
    Finset.sum_congr rfl hterm, ← Finset.sum_mul, ← msgPoly]
  cases b <;> simp [bitCoeff]

theorem msgPoly_append (m m' : List Bool) : msgPoly (m ++ m') = msgPoly m * X ^ m'.length + msgPoly m' := by
  induction m' using List.reverseRecOn with
  | nil => simp
  | append_singleton m' b ih =>
    rw [← List.append_assoc, msgPoly_append_singleton, msgPoly_append_singleton, ih, List.length_append,
      List.length_singleton]
    ring

/-- The dividend of R115 and the register differ by a multiple of `G`. -/
theorem generator_dvd_sub_crcBits (poly init : Word) (m : List Bool) :
    generator poly ∣ wordPoly init * X ^ m.length + msgPoly m - wordPoly (crcBits poly init m) := by
  induction m using List.reverseRecOn with
  | nil => simp
  | append_singleton m b ih =>
    obtain ⟨q, hq⟩ := ih
    have hstep := wordPoly_crcBitStep poly (crcBits poly init m) b
    refine ⟨q * X + C (bitCoeff ((crcBits poly init m).getLsbD 15)), ?_⟩
    rw [crcBits_append_singleton, msgPoly_append_singleton, List.length_append, List.length_singleton]
    linear_combination X * hq - hstep

/-- Each step keeps the register congruent to the dividend modulo `G`, and its degree is below that of `G`. -/
theorem wordPoly_crcBits (poly init : Word) (m : List Bool) :
    wordPoly (crcBits poly init m) = (wordPoly init * X ^ m.length + msgPoly m) %ₘ generator poly := by
  have hself : wordPoly (crcBits poly init m) %ₘ generator poly = wordPoly (crcBits poly init m) := by
    rw [modByMonic_eq_self_iff (generator_monic poly), degree_generator]
    exact degree_wordPoly_lt _
  rw [← hself]
  exact (modByMonic_eq_of_dvd_sub (generator_monic poly) (generator_dvd_sub_crcBits poly init m)).symm

/-- Settles O14: the statement writes out `wordPoly`, `msgPoly` and `generator`. -/
theorem crcIsThePolynomialRemainder : Obligations.CrcIsThePolynomialRemainder := by
  intro poly init m
  exact wordPoly_crcBits poly init m

end Sys2Proof
end

section
/-! PROOFS. The error patterns the CRC detects, as polynomials (40_crc.md R118): an error is missed exactly when the
generator divides it. -/

namespace Sys2Proof
open Polynomial Sys2Proof.Machine

/-! ### Error patterns (R118) -/

theorem crcOf_zero_eq_zero_iff (poly : Word) (e : List Byte) :
    crcOf poly 0x0000 e = 0x0000 ↔ generator poly ∣ msgPoly (frameBits e) := by
  rw [crcOf_eq_crcBits_frameBits, ← wordPoly_injective.eq_iff, wordPoly_crcBits, wordPoly_zero, zero_mul, zero_add,
    modByMonic_eq_zero_iff_dvd (generator_monic poly)]

/-- An error is missed exactly when `G` divides its polynomial. -/
theorem validFlag_xorBytes_iff {c : Config} {f e : List Byte} (hf : validFlag c f = true) (he : e.length = f.length) :
    validFlag c (xorBytes f e) = true ↔ generator c.POLY ∣ msgPoly (frameBits e) := by
  rw [validFlag_iff, residueIsLinearInErrors c f e he, validFlag_iff.1 hf, ← crcOf_zero_eq_zero_iff]
  exact Eq.congr_left BitVec.zero_xor

theorem validFlag_xorBytes_eq_false {c : Config} {f e : List Byte} (hf : validFlag c f = true)
    (he : e.length = f.length) (h : ¬ generator c.POLY ∣ msgPoly (frameBits e)) :
    validFlag c (xorBytes f e) = false :=
  Bool.eq_false_iff.2 (mt (validFlag_xorBytes_iff hf he).1 h)

@[simp] theorem msgPoly_replicate_false (n : Nat) : msgPoly (List.replicate n false) = 0 := by
  induction n with
  | zero => rfl
  | succ n ih => rw [List.replicate_succ', msgPoly_append_singleton, ih]; simp [bitCoeff]

theorem msgPoly_cons (b : Bool) (m : List Bool) : msgPoly (b :: m) = C (bitCoeff b) * X ^ m.length + msgPoly m := by
  rw [← List.singleton_append, msgPoly_append, ← List.nil_append [b], msgPoly_append_singleton, msgPoly_nil, zero_mul,
    zero_add]

theorem msgPoly_cons_true (m : List Bool) : msgPoly (true :: m) = X ^ m.length + msgPoly m := by
  rw [msgPoly_cons, bitCoeff, if_pos rfl, C_1, one_mul]

theorem msgPoly_cons_false (m : List Bool) : msgPoly (false :: m) = msgPoly m := by
  simp [msgPoly_cons, bitCoeff]

/-- Setting a clear bit adds its power of `x`. -/
theorem msgPoly_set_true {m : List Bool} {i : Nat} (hi : i < m.length) (hclear : m[i] = false) :
    msgPoly (m.set i true) = msgPoly m + X ^ (m.length - 1 - i) := by
  have hsplit : msgPoly m = msgPoly (m.take i ++ false :: m.drop (i + 1)) := by
    rw [← hclear, List.cons_getElem_drop_succ, List.take_append_drop]
  rw [hsplit, List.set_eq_take_append_cons_drop, if_pos hi, msgPoly_append, msgPoly_append, msgPoly_cons_true,
    msgPoly_cons_false, List.length_cons, List.length_cons, List.length_drop,
    show m.length - (i + 1) = m.length - 1 - i by omega]
  ring

/-- A single-bit error is a power of `x`. -/
theorem msgPoly_replicate_set {n i : Nat} (hi : i < n) :
    msgPoly ((List.replicate n false).set i true) = X ^ (n - 1 - i) := by
  rw [msgPoly_set_true (by simpa using hi) (by simp), msgPoly_replicate_false, zero_add, List.length_replicate]

/-- A burst `w` that ends `j` bits before the end. -/
theorem msgPoly_burst (i j : Nat) (w : List Bool) :
    msgPoly (List.replicate i false ++ w ++ List.replicate j false) = msgPoly w * X ^ j := by
  rw [msgPoly_append, msgPoly_append]
  simp

theorem coeff_msgPoly_eq_zero {m : List Bool} {i : Nat} (hi : m.length ≤ i) : (msgPoly m).coeff i = 0 := by
  induction m using List.reverseRecOn generalizing i with
  | nil => simp
  | append_singleton m b ih =>
    obtain ⟨i, rfl⟩ : ∃ k, i = k + 1 := ⟨i - 1, by simp at hi; omega⟩
    rw [msgPoly_append_singleton, coeff_add, coeff_mul_X, coeff_C_succ, ih (by simpa using hi), add_zero]

theorem degree_msgPoly_lt (m : List Bool) : (msgPoly m).degree < m.length :=
  (degree_lt_iff_coeff_zero _ _).2 fun _ hi => coeff_msgPoly_eq_zero hi

/-- Bit strings of one length with the same polynomial are the same. -/
theorem msgPoly_inj {m m' : List Bool} (hlen : m.length = m'.length) (h : msgPoly m = msgPoly m') : m = m' := by
  induction m using List.reverseRecOn generalizing m' with
  | nil => exact (List.length_eq_zero_iff.1 hlen.symm).symm
  | append_singleton m b ih =>
    obtain ⟨m', b', rfl⟩ := List.eq_nil_or_concat' m' |>.resolve_left (by rintro rfl; simp at hlen)
    rw [msgPoly_append_singleton, msgPoly_append_singleton] at h
    have hb : bitCoeff b = bitCoeff b' := by simpa using congrArg (coeff · 0) h
    have hm : msgPoly m = msgPoly m' := by
      rw [hb] at h
      exact mul_right_cancel₀ X_ne_zero (add_right_cancel h)
    rw [ih (by simpa using hlen) hm, bitCoeff_injective hb]

theorem msgPoly_ne_zero {m : List Bool} (h : true ∈ m) : msgPoly m ≠ 0 := fun h0 => by
  have hm : m = List.replicate m.length false := msgPoly_inj (by simp) (by simpa using h0)
  exact absurd (List.eq_of_mem_replicate (hm ▸ h)) (by decide)

/-- A generator of more than one term divides no power of `x`. -/
theorem not_generator_dvd_X_pow {poly : Word} (hpoly : poly ≠ 0x0000) (k : Nat) : ¬ generator poly ∣ X ^ k := by
  intro h
  obtain ⟨j, -, hj⟩ := (dvd_prime_pow prime_X k).1 h
  have heq : generator poly = X ^ j := eq_of_monic_of_associated (generator_monic poly) (monic_X_pow j) hj
  have hdeg : 16 = j := by
    have := congrArg natDegree heq
    rwa [natDegree_eq_of_degree_eq_some (degree_generator poly), natDegree_X_pow] at this
  rw [generator, ← hdeg, add_eq_left, ← wordPoly_zero] at heq
  exact hpoly (wordPoly_injective heq)

/-- Settles O19: a generator of more than one term does not divide a single-bit error. -/
theorem singleBitErrorsAreDetected : Obligations.SingleBitErrorsAreDetected := by
  intro c f e i hpoly hf he hi hbits
  refine validFlag_xorBytes_eq_false hf he ?_
  rw [hbits, msgPoly_replicate_set hi]
  exact not_generator_dvd_X_pow hpoly _

/-! ### Bursts under the default generator (R118(d), (e)) -/

/-- The pattern of R118(e). -/
def missedPattern : List Bool := [true, false, false, true, false, false, false, false, true, false, false, false, true]

theorem msgPoly_missedPattern : msgPoly missedPattern = X ^ 12 + X ^ 9 + X ^ 4 + 1 := by
  simp [msgPoly, missedPattern, Finset.sum_range_succ]

theorem degree_msgPoly_missedPattern : (msgPoly missedPattern).degree = (12 : Nat) := by
  rw [msgPoly_missedPattern]
  compute_degree!

theorem wordPoly_default_POLY : wordPoly 0x2110 = X ^ 4 + X ^ 8 + X ^ 13 := by
  simp [wordPoly, Finset.sum_range_succ]

/-- The default generator is `x^4` times the polynomial of R118(e)'s pattern. -/
theorem generator_default : generator 0x2110 = msgPoly missedPattern * X ^ 4 := by
  rw [generator, wordPoly_default_POLY, msgPoly_missedPattern]
  ring

theorem isCoprime_msgPoly_missedPattern_X_pow (j : Nat) : IsCoprime (msgPoly missedPattern) (X ^ j) := by
  refine (IsCoprime.pow_left ?_).symm
  rw [irreducible_X.coprime_iff_not_dvd, X_dvd_iff, msgPoly_missedPattern]
  simp

/-- A missed burst is a multiple of the pattern, wherever it stands. -/
theorem missedPattern_dvd_of_generator_dvd {w : List Bool} {j : Nat} (h : generator 0x2110 ∣ msgPoly w * X ^ j) :
    msgPoly missedPattern ∣ msgPoly w := by
  rw [generator_default] at h
  exact (isCoprime_msgPoly_missedPattern_X_pow j).dvd_of_dvd_mul_right (dvd_of_mul_right_dvd h)

theorem eq_zero_of_missedPattern_dvd {p : (ZMod 2)[X]} (hdvd : msgPoly missedPattern ∣ p)
    (hdeg : p.degree < (12 : Nat)) : p = 0 :=
  eq_zero_of_dvd_of_degree_lt hdvd (degree_msgPoly_missedPattern ▸ hdeg)

/-- Settles O20: a burst of at most 12 bits has too low a degree for a multiple of the pattern. -/
theorem shortBurstsAreDetected : Obligations.ShortBurstsAreDetected := by
  intro c f e i j w hpoly hf he hbits hlen htrue
  refine validFlag_xorBytes_eq_false hf he fun hdvd => msgPoly_ne_zero htrue ?_
  rw [hpoly, hbits, msgPoly_burst] at hdvd
  exact eq_zero_of_missedPattern_dvd (missedPattern_dvd_of_generator_dvd hdvd)
    ((degree_msgPoly_lt w).trans_le (by exact_mod_cast hlen))

/-- The one pattern of 13 bits, the first set, that the pattern divides is itself. -/
theorem eq_missedPattern_of_dvd {w : List Bool} (hlen : w.length = 13) (hhead : w.head? = some true)
    (hdvd : msgPoly missedPattern ∣ msgPoly w) : w = missedPattern := by
  obtain ⟨w, rfl⟩ := List.head?_eq_some_iff.1 hhead
  have hw : w.length = 12 := by simpa using hlen
  refine msgPoly_inj hlen (sub_eq_zero.1 (eq_zero_of_missedPattern_dvd (dvd_sub hdvd dvd_rfl) ?_))
  have hsub : msgPoly (true :: w) - msgPoly missedPattern = msgPoly w - msgPoly missedPattern.tail := by
    rw [missedPattern, msgPoly_cons_true, msgPoly_cons_true, hw]
    exact add_sub_add_left_eq_sub _ _ _
  rw [hsub]
  exact (degree_sub_le _ _).trans_lt (max_lt (hw ▸ degree_msgPoly_lt w) (degree_msgPoly_lt missedPattern.tail))

theorem generator_dvd_missedPattern_iff (j : Nat) :
    generator 0x2110 ∣ msgPoly missedPattern * X ^ j ↔ 4 ≤ j := by
  have hne : msgPoly missedPattern ≠ 0 := msgPoly_ne_zero (by decide)
  rw [generator_default, mul_dvd_mul_iff_left hne, pow_dvd_pow_iff X_ne_zero not_isUnit_X]

/-- Settles O21: a missed burst of 13 bits is the pattern, and the `x^4` of the generator must come from the zeros after
it. -/
theorem missedBurstsOfLengthThirteen : Obligations.MissedBurstsOfLengthThirteen := by
  intro c f e i j w hpoly hf he hbits hlen hhead _
  rw [validFlag_xorBytes_iff hf he, hpoly, hbits, msgPoly_burst]
  constructor
  · intro hdvd
    obtain rfl := eq_missedPattern_of_dvd hlen hhead (missedPattern_dvd_of_generator_dvd hdvd)
    exact ⟨rfl, (generator_dvd_missedPattern_iff j).1 hdvd⟩
  · rintro ⟨rfl, hj⟩
    exact (generator_dvd_missedPattern_iff j).2 hj

/-! ### Double-bit errors (R118(b), (c)) -/

/-- The residue a single-bit error leaves, `k` bits before the end. -/
def singleBitCrc (k : Nat) : Word := crcBits 0x2110 0x0000 (true :: List.replicate k false)

theorem wordPoly_singleBitCrc (k : Nat) : wordPoly (singleBitCrc k) = X ^ k %ₘ generator 0x2110 := by
  rw [singleBitCrc, wordPoly_crcBits, wordPoly_zero, zero_mul, zero_add, msgPoly_cons_true, msgPoly_replicate_false,
    add_zero, List.length_replicate]

/-- Within 112 bits no two single-bit errors leave the same residue. -/
theorem nodup_singleBitCrc : ((List.range 112).map singleBitCrc).Nodup := by decide +kernel

theorem singleBitCrc_ne {a b : Nat} (ha : a < 112) (hb : b < 112) (h : a ≠ b) : singleBitCrc a ≠ singleBitCrc b :=
  fun heq => h (List.inj_on_of_nodup_map nodup_singleBitCrc (List.mem_range.2 ha) (List.mem_range.2 hb) heq)

/-- Settles O22: the two bits of a missed error would leave the same residue. -/
theorem doubleBitErrorsAreDetected : Obligations.DoubleBitErrorsAreDetected := by
  intro c f e i j hpoly hf hflen helen hij hj hbits
  refine validFlag_xorBytes_eq_false hf (helen.trans hflen.symm) fun hdvd => ?_
  have hsum : msgPoly (frameBits e) = X ^ (111 - i) - X ^ (111 - j) := by
    rw [hbits, msgPoly_set_true (by rwa [List.length_set, List.length_replicate])
      (by rw [List.getElem_set_ne hij.ne, List.getElem_replicate]), msgPoly_replicate_set (by omega),
      List.length_set, List.length_replicate, CharTwo.sub_eq_add]
  rw [hpoly, hsum] at hdvd
  refine singleBitCrc_ne (a := 111 - i) (b := 111 - j) (by omega) (by omega) (by omega) (wordPoly_injective ?_)
  rw [wordPoly_singleBitCrc, wordPoly_singleBitCrc]
  exact modByMonic_eq_of_dvd_sub (generator_monic _) hdvd

end Sys2Proof
end

section
/-! PROOFS. What each instruction does, said once: every outcome of every instruction of any configuration, with the state
it leaves written out (10_state.md R20; 40_crc.md to 43_control.md). The statements about single instructions are its rows,
those about the whole machine a case analysis on it. -/

namespace Sys2Proof.Machine

/-- A whole valid packet stands at the head of RX and the read returns all of it (R150, R152). -/
structure State.HeadValid (c : Config) (s : State) : Prop where
  rx : c.N ≤ s.rx.length
  read : c.N ≤ s.draw.read
  residue : residue c (s.rx.take c.N) = 0x0000

/-- The instruction `i`, run on `s`, may leave `t`: one row per outcome. -/
inductive Effect (c : Config) (s : State) : Instr → State → Prop
  | reset : Effect c s .reset { s with
      crc := c.CRC_INIT, expectedSeq := 0x0000, lastAcked := 0xFFFF, nackPending := false, response := some .ok }
  | crcInit : Effect c s .crcInit { s with crc := c.CRC_INIT, response := some .ok }
  | crcBit (b : Bool) : Effect c s (.crcBit b) { s with crc := crcBitStep c.POLY s.crc b, response := some .ok }
  | crcByte (v : Byte) : Effect c s (.crcByte v) { s with crc := crcByteStep c.POLY s.crc v, response := some .ok }
  | crcRead : Effect c s .crcRead { s with response := some (.okCrc s.crc) }
  | encode {p} (hp : p.length ≤ c.D) (ty sq) :
      Effect c s (.encode ty sq p) { s with response := some (.okFrame (encodePacket c ty sq p)) }
  | encodeLong {p} (hp : c.D < p.length) (ty sq) :
      Effect c s (.encode ty sq p) { s with response := some .formatError }
  | decode {f} (hf : f.length = c.N) : Effect c s (.decode f) { s with
      response := some (.okDecoded (typeField f) (seqField f) (payloadField c f) (validFlag c f)) }
  | decodeLength {f} (hf : f.length ≠ c.N) : Effect c s (.decode f) { s with response := some .formatError }
  | transmit {p} (hp : p.length ≤ c.D) (hw : s.writeOk = true) (ty sq) : Effect c s (.transmit ty sq p) { s with
      tx := s.tx ++ s.written (encodePacket c ty sq p), response := some .ok }
  | transmitFail {p} (hp : p.length ≤ c.D) (hw : s.writeOk = false) (ty sq) : Effect c s (.transmit ty sq p) { s with
      tx := s.tx ++ s.written (encodePacket c ty sq p), response := some (.transportError none) }
  | transmitLong {p} (hp : c.D < p.length) (ty sq) :
      Effect c s (.transmit ty sq p) { s with response := some .formatError }
  | readStatus : Effect c s .readStatus { s with
      response := some (.okStatus s.expectedSeq s.lastAcked s.nackValue) }
  | clearNack : Effect c s .clearNack { s with nackPending := false, response := some .ok }
  | ack (sq pl) : Effect c s (.ack sq pl) { s with lastAcked := sq, response := some (.ackSeen sq) }
  | nack (sq pl) : Effect c s (.nack sq pl) { s with
      nackPending := true, nackSeq := sq, response := some (.nackSeen sq) }
  | dataInOrder {sq} (hsq : sq = s.expectedSeq) (pl) : Effect c s (.data sq pl) { s with
      expectedSeq := s.expectedSeq + 1, delivered := s.delivered ++ [⟨slotOf c sq, pl⟩],
      tx := s.tx ++ s.written (encodePacket c .ack sq []),
      response := some (.dataAccepted sq (slotOf c sq) s.writeOk) }
  | dataOutOfOrder {sq} (hsq : sq ≠ s.expectedSeq) (pl) : Effect c s (.data sq pl) { s with
      tx := s.tx ++ s.written (encodePacket c .nack s.expectedSeq []),
      response := some (.dataOutOfOrder sq s.expectedSeq s.writeOk) }
  | noPacket (hrx : s.rx.length < c.N) : Effect c s .receive { s with response := some .noPacket }
  | shortRead (hrx : c.N ≤ s.rx.length) (hread : s.draw.read < c.N) : Effect c s .receive { s with
      rx := s.rx.drop s.draw.read, response := some (.transportError (some s.draw.read)) }
  | badResidue (hrx : c.N ≤ s.rx.length) (hread : c.N ≤ s.draw.read) (hres : residue c (s.rx.take c.N) ≠ 0x0000) :
      Effect c s .receive { s with rx := s.rx.drop c.N, response := some .checksumError }
  | receiveAck (h : s.HeadValid c) (hty : typeField s.rx = 0x0001) : Effect c s .receive { s with
      rx := s.rx.drop c.N, lastAcked := seqField s.rx, response := some (.ackSeen (seqField s.rx)) }
  | receiveNack (h : s.HeadValid c) (hty : typeField s.rx = 0x0002) : Effect c s .receive { s with
      rx := s.rx.drop c.N, nackPending := true, nackSeq := seqField s.rx,
      response := some (.nackSeen (seqField s.rx)) }
  | receiveInOrder (h : s.HeadValid c) (hty : typeField s.rx = 0x0003) (hsq : seqField s.rx = s.expectedSeq) :
      Effect c s .receive { s with
        rx := s.rx.drop c.N, expectedSeq := s.expectedSeq + 1,
        delivered := s.delivered ++ [⟨slotOf c (seqField s.rx), payloadField c s.rx⟩],
        tx := s.tx ++ s.written (encodePacket c .ack (seqField s.rx) []),
        response := some (.dataAccepted (seqField s.rx) (slotOf c (seqField s.rx)) s.writeOk) }
  | receiveOutOfOrder (h : s.HeadValid c) (hty : typeField s.rx = 0x0003) (hsq : seqField s.rx ≠ s.expectedSeq) :
      Effect c s .receive { s with
        rx := s.rx.drop c.N, tx := s.tx ++ s.written (encodePacket c .nack s.expectedSeq []),
        response := some (.dataOutOfOrder (seqField s.rx) s.expectedSeq s.writeOk) }
  | receiveReserved (h : s.HeadValid c) (hack : typeField s.rx ≠ 0x0001) (hnack : typeField s.rx ≠ 0x0002)
      (hdata : typeField s.rx ≠ 0x0003) : Effect c s .receive { s with
        rx := s.rx.drop c.N, response := some (.unknownType (typeField s.rx) (seqField s.rx)) }

/-! ### `Effect` is what the machine does -/

@[simp] theorem dispatchPacket_data (c : Config) (sq : Word) (pl : List Byte) (s : State) :
    dispatchPacket c 0x0003 sq pl s = dataAction c sq pl s := rfl

theorem dispatchPacket_reserved (c : Config) {ty : Word} (hack : ty ≠ 0x0001) (hnack : ty ≠ 0x0002)
    (hdata : ty ≠ 0x0003) (sq : Word) (pl : List Byte) (s : State) :
    dispatchPacket c ty sq pl s = s.respond (.unknownType ty sq) := by
  rw [dispatchPacket, if_neg hack, if_neg hnack, if_neg hdata]

theorem receivePacket_of_short_rx {c : Config} {s : State} (h : s.rx.length < c.N) :
    receivePacket c s = s.respond .noPacket := if_pos h

theorem receivePacket_of_short_read {c : Config} {s : State} (hrx : c.N ≤ s.rx.length) (hread : s.draw.read < c.N) :
    receivePacket c s =
      { s with rx := s.rx.drop s.draw.read, response := some (.transportError (some s.draw.read)) } := by
  obtain ⟨hshort, -⟩ | ⟨-, -, heq⟩ | ⟨-, hfull, -⟩ | ⟨-, hfull, -⟩ := receivePacket_cases c s
  · omega
  · rw [heq, State.rxConsume, State.readCount_short hread hrx, State.respond]
  · omega
  · omega

theorem receivePacket_of_headValid {c : Config} {s : State} (h : s.HeadValid c) :
    receivePacket c s =
      dispatchPacket c (typeField s.rx) (seqField s.rx) (payloadField c s.rx) { s with rx := s.rx.drop c.N } :=
  receivePacket_of_residue_eq_zero h.rx h.read h.residue

/-- A row of `Effect` is what `execOn` computes. -/
theorem Effect.execOn_eq {c : Config} {i : Instr} {s t : State} (h : Effect c s i t) : execOn c i s = .next t := by
  cases h with
  | reset | crcInit | crcBit | crcByte | crcRead | readStatus | clearNack | ack | nack => rfl
  | encode hp ty sq => exact congrArg Host.Outcome.next (if_neg (Nat.not_lt.2 hp))
  | encodeLong hp ty sq => exact congrArg Host.Outcome.next (if_pos hp)
  | decode hf => exact congrArg Host.Outcome.next (decodeFrame_of_length hf s)
  | decodeLength hf => exact congrArg Host.Outcome.next (decodeFrame_of_length_ne hf s)
  | transmit hp hw ty sq => exact congrArg Host.Outcome.next ((if_neg (Nat.not_lt.2 hp)).trans (if_pos hw))
  | transmitFail hp hw ty sq =>
    exact congrArg Host.Outcome.next ((if_neg (Nat.not_lt.2 hp)).trans (if_neg (ne_true_of_eq_false hw)))
  | transmitLong hp ty sq => exact congrArg Host.Outcome.next (if_pos hp)
  | dataInOrder hsq pl => exact congrArg Host.Outcome.next (if_pos hsq)
  | dataOutOfOrder hsq pl => exact congrArg Host.Outcome.next (if_neg hsq)
  | noPacket hrx => exact congrArg Host.Outcome.next (receivePacket_of_short_rx hrx)
  | shortRead hrx hread => exact congrArg Host.Outcome.next (receivePacket_of_short_read hrx hread)
  | badResidue hrx hread hres => exact congrArg Host.Outcome.next (receivePacket_of_residue_ne_zero hrx hread hres)
  | receiveAck h hty =>
    rw [execOn, receivePacket_of_headValid h, hty, dispatchPacket_ack, ackAction_eq]
  | receiveNack h hty =>
    rw [execOn, receivePacket_of_headValid h, hty, dispatchPacket_nack, nackAction_eq]
  | receiveInOrder h hty hsq =>
    rw [execOn, receivePacket_of_headValid h, hty, dispatchPacket_data]
    exact congrArg Host.Outcome.next (if_pos hsq)
  | receiveOutOfOrder h hty hsq =>
    rw [execOn, receivePacket_of_headValid h, hty, dispatchPacket_data]
    exact congrArg Host.Outcome.next (if_neg hsq)
  | receiveReserved h hack hnack hdata =>
    rw [execOn, receivePacket_of_headValid h, dispatchPacket_reserved c hack hnack hdata, State.respond]

/-- RECEIVE always has a row: the conditions of R209, then the type and the sequence. -/
theorem exists_effect_receive (c : Config) (s : State) : ∃ t, Effect c s .receive t := by
  by_cases hrx : s.rx.length < c.N
  · exact ⟨_, .noPacket hrx⟩
  rw [Nat.not_lt] at hrx
  by_cases hread : s.draw.read < c.N
  · exact ⟨_, .shortRead hrx hread⟩
  rw [Nat.not_lt] at hread
  by_cases hres : residue c (s.rx.take c.N) = 0x0000
  · have h : s.HeadValid c := ⟨hrx, hread, hres⟩
    by_cases hack : typeField s.rx = 0x0001
    · exact ⟨_, .receiveAck h hack⟩
    by_cases hnack : typeField s.rx = 0x0002
    · exact ⟨_, .receiveNack h hnack⟩
    by_cases hdata : typeField s.rx = 0x0003
    · by_cases hsq : seqField s.rx = s.expectedSeq
      · exact ⟨_, .receiveInOrder h hdata hsq⟩
      · exact ⟨_, .receiveOutOfOrder h hdata hsq⟩
    · exact ⟨_, .receiveReserved h hack hnack hdata⟩
  · exact ⟨_, .badResidue hrx hread hres⟩

theorem exists_effect (c : Config) (i : Instr) (s : State) : ∃ t, Effect c s i t := by
  cases i with
  | reset => exact ⟨_, .reset⟩
  | crcInit => exact ⟨_, .crcInit⟩
  | crcBit b => exact ⟨_, .crcBit b⟩
  | crcByte v => exact ⟨_, .crcByte v⟩
  | crcRead => exact ⟨_, .crcRead⟩
  | encode ty sq p =>
    by_cases hp : p.length ≤ c.D
    · exact ⟨_, .encode hp ty sq⟩
    · exact ⟨_, .encodeLong (Nat.not_le.1 hp) ty sq⟩
  | decode f =>
    by_cases hf : f.length = c.N
    · exact ⟨_, .decode hf⟩
    · exact ⟨_, .decodeLength hf⟩
  | transmit ty sq p =>
    by_cases hp : p.length ≤ c.D
    · cases hw : s.writeOk with
      | true => exact ⟨_, .transmit hp hw ty sq⟩
      | false => exact ⟨_, .transmitFail hp hw ty sq⟩
    · exact ⟨_, .transmitLong (Nat.not_le.1 hp) ty sq⟩
  | receive => exact exists_effect_receive c s
  | readStatus => exact ⟨_, .readStatus⟩
  | clearNack => exact ⟨_, .clearNack⟩
  | ack sq pl => exact ⟨_, .ack sq pl⟩
  | nack sq pl => exact ⟨_, .nack sq pl⟩
  | data sq pl =>
    by_cases hsq : sq = s.expectedSeq
    · exact ⟨_, .dataInOrder hsq pl⟩
    · exact ⟨_, .dataOutOfOrder hsq pl⟩

/-- Everything an instruction can do, on any configuration. -/
theorem execOn_eq_next_iff {c : Config} {i : Instr} {s t : State} : execOn c i s = .next t ↔ Effect c s i t := by
  refine ⟨fun h => ?_, Effect.execOn_eq⟩
  obtain ⟨t', ht'⟩ := exists_effect c i s
  obtain rfl := Host.Outcome.next.inj (ht'.execOn_eq.symm.trans h)
  exact ht'

theorem exec_eq_execOn (i : Instr) (s : State) : exec i s = execOn Config.here i s := by
  cases i <;> rfl

theorem exec_eq_next_iff {i : Instr} {s t : State} : exec i s = .next t ↔ Effect Config.here s i t := by
  rw [exec_eq_execOn, execOn_eq_next_iff]

theorem Effect.exec_eq {i : Instr} {s t : State} (h : Effect Config.here s i t) : exec i s = .next t :=
  exec_eq_next_iff.2 h

end Sys2Proof.Machine
end

section
/-! PROOFS. The step (20_memory.md R51, R63, R69) and what the command port refuses (43_control.md R181). -/

namespace Sys2Proof.Machine

/-! ### One step -/

theorem portInstr_of_decode {c : Config} {k : Command} {i : Instr} (h : decodeOn c (.command k) = .ok i) :
    portInstr k = some i := portInstr_eq_some.2 h

theorem stepWith_of_decode {c : Config} {run : Instr → State → Host.Outcome State Fault Refusal} {s : State}
    {k : Command} {d : Draw} {rest : List Input} {i : Instr} (hin : s.inputs = .command k d :: rest)
    (hk : decodeOn c (.command k) = .ok i) :
    stepWith c run s = run i { s with inputs := rest, draw := d } := by
  have hport := portInstr_of_decode hk
  simp only [stepWith, hin, hport]
  rfl

/-- Settles O2: the step looks the command up and runs what it finds. -/
theorem stepRunsDecodedCommand : Obligations.StepRunsDecodedCommand :=
  fun _ _ _ _ _ hin hk => stepWith_of_decode hin hk

theorem step_eq_stepOn (s : State) : step s = stepOn Config.here s := by
  have hrun : exec = execOn Config.here := funext fun i => funext fun s => exec_eq_execOn i s
  rw [step, stepOn, hrun]

/-- Settles O59: the fixed names are the machine with parameters at `Config.here`, arm by arm. -/
theorem stepIsTheDefaultInstance : Obligations.StepIsTheDefaultInstance :=
  ⟨exec_eq_execOn, step_eq_stepOn, fun _ _ _ _ _ _ hin hk => stepWith_of_decode hin hk⟩

/-- A command that decodes takes the row of its instruction. -/
theorem step_of_effect {s t : State} {k : Command} {d : Draw} {rest : List Input} {i : Instr}
    (hin : s.inputs = .command k d :: rest) (hk : decode (.command k) = .ok i)
    (h : Effect Config.here { s with inputs := rest, draw := d } i t) : step s = .next t :=
  (stepRunsDecodedCommand s k d rest i hin hk).trans h.exec_eq

/-- A command that no row takes leaves a response and nothing else. -/
theorem step_of_refused {s : State} {k : Command} {d : Draw} {rest : List Input}
    (hin : s.inputs = .command k d :: rest) (hk : ∀ i, decode (.command k) ≠ .ok i) :
    step s = .next { s with inputs := rest, draw := d, response := some (.illegalCommand k.opcode) } := by
  have hport : portInstr k = none := Option.eq_none_iff_forall_ne_some.2 fun i hi => hk i (portInstr_eq_some.1 hi)
  simp only [step, stepWith, hin, hport]
  rfl

/-- Settles O4: the step's arms for an empty list and for the environment's three actions. -/
theorem environmentActsBetweenCommands : Obligations.EnvironmentActsBetweenCommands := by
  refine fun s => ⟨fun hin => ?_, fun bs rest hin => ?_, fun n rest hin => ?_, fun v rest hin => ?_⟩ <;>
    simp only [step, stepWith, hin] <;> rfl

/-! ### The command port's refusals (R86, R90, R181) -/

/-- What the forms of R85 ask of a record with this opcode. -/
theorem operands_of_encode {i : Instr} {k : Command} (h : encode i = .command k) :
    (k.opcode ∈ [opReset, opCrcInit, opCrcRead, opReceive, opReadStatus, opClearNack] ∧ k.operands = []) ∨
    (k.opcode = opCrcBit ∧ ∃ n < 2, k.operands = [.num n]) ∨
    (k.opcode = opCrcByte ∧ ∃ n < 256, k.operands = [.num n]) ∨
    (k.opcode = opDecode ∧ ∃ f, k.operands = [.bytes f]) ∨
    ((k.opcode = opEncode ∨ k.opcode = opTransmit) ∧ ∃ t sq p, (t = 1 ∨ t = 2 ∨ t = 3) ∧ sq < 65536 ∧
      k.operands = [.num t, .num sq, .bytes p]) := by
  have hty : ∀ t : PacketType, numOfPacketType t = 1 ∨ numOfPacketType t = 2 ∨ numOfPacketType t = 3 := fun t => by
    cases t <;> decide
  cases i with
  | ack | nack | data => cases h
  | reset | crcInit | crcRead | receive | readStatus | clearNack =>
    cases h
    exact .inl ⟨by decide, rfl⟩
  | crcBit b =>
    cases h
    exact .inr (.inl ⟨rfl, _, b.toNat_lt, rfl⟩)
  | crcByte v =>
    cases h
    exact .inr (.inr (.inl ⟨rfl, _, v.isLt, rfl⟩))
  | decode f =>
    cases h
    exact .inr (.inr (.inr (.inl ⟨rfl, f, rfl⟩)))
  | encode t sq p =>
    cases h
    exact .inr (.inr (.inr (.inr ⟨.inl rfl, _, _, p, hty t, sq.isLt, rfl⟩)))
  | transmit t sq p =>
    cases h
    exact .inr (.inr (.inr (.inr ⟨.inr rfl, _, _, p, hty t, sq.isLt, rfl⟩)))

/-- Settles O5: a record the decoder takes is one R85 gives, and none of the forms listed is. -/
theorem illegalCommandsHaveNoEffect : Obligations.IllegalCommandsHaveNoEffect := by
  intro s ⟨op, ops⟩ d rest hin h
  refine step_of_refused hin fun i hi => ?_
  have henc := operands_of_encode (decodedWordsAreEncodings Config.here _ i hi).2
  obtain ⟨e, he⟩ | h := h
  · cases he.symm.trans hi
  obtain ⟨hop, rfl⟩ | ⟨rfl, n, hn, rfl⟩ | ⟨rfl, n, hn, rfl⟩ | ⟨rfl, f, rfl⟩ | ⟨rfl | rfl, t, sq, p, ht, hsq, rfl⟩ := henc
  · simp only [List.mem_cons, List.not_mem_nil, or_false] at hop
    obtain rfl | rfl | rfl | rfl | rfl | rfl := hop <;>
      simp [opReset, opCrcInit, opCrcRead, opReceive, opReadStatus, opClearNack] at h
  · simp [opCrcBit] at h
    exact h n (Nat.le_of_lt_succ hn) rfl
  · simp [opCrcByte] at h
    exact h n hn rfl
  · simp [opDecode] at h
  · simp [opEncode] at h
    exact h t sq p ht hsq rfl rfl rfl
  · simp [opTransmit] at h
    exact h t sq p ht hsq rfl rfl rfl

end Sys2Proof.Machine
end

section
/-! PROOFS. The statements about single instructions (40_crc.md, 41_framer.md, 42_receive.md, 43_control.md): each is the
row of `Effect` for its instruction, with the fields written as the rule writes them. -/

namespace Sys2Proof

/-! ### The CRC step and the packet fields as the rules write them -/

theorem shiftConcat_eq (r : Word) (b : Bool) : r.shiftConcat b = (r <<< 1) ||| (if b then 1 else 0) := by
  apply BitVec.eq_of_getLsbD_eq
  intro i hi
  cases i <;> cases b <;> simp [hi]

theorem crcBitStep_eq (poly r : Word) (b : Bool) :
    crcBitStep poly r b =
      if r.getLsbD 15 then ((r <<< 1) ||| (if b then 1 else 0)) ^^^ poly else (r <<< 1) ||| (if b then 1 else 0) := by
  rw [crcBitStep, shiftConcat_eq]

/-- A little-endian field is its low byte plus 256 times its high byte (R81, R82). -/
theorem wordOf_eq_ofNat (hi lo : Byte) : wordOf hi lo = BitVec.ofNat 16 (lo.toNat + 256 * hi.toNat) := by
  apply BitVec.eq_of_toNat_eq
  have hhi : hi.toNat < 2 ^ 8 := hi.isLt
  have hlo : lo.toNat < 2 ^ 8 := lo.isLt
  have hshift : hi.toNat <<< 8 = 256 * hi.toNat := by rw [Nat.shiftLeft_eq]; omega
  have hor : lo.toNat ||| hi.toNat <<< 8 = hi.toNat <<< 8 + lo.toNat := by
    rw [Nat.lor_comm, Nat.shiftLeft_add_eq_or_of_lt hlo]
  have hhi16 : hi.toNat % 2 ^ 16 = hi.toNat := Nat.mod_eq_of_lt (by omega)
  have hlo16 : lo.toNat % 2 ^ 16 = lo.toNat := Nat.mod_eq_of_lt (by omega)
  have hshift16 : hi.toNat <<< 8 % 2 ^ 16 = hi.toNat <<< 8 := Nat.mod_eq_of_lt (by omega)
  rw [wordOf, BitVec.toNat_or, BitVec.toNat_shiftLeft, BitVec.toNat_setWidth, BitVec.toNat_setWidth, hhi16, hlo16,
    hshift16, hor, hshift, BitVec.toNat_ofNat]
  omega

end Sys2Proof

namespace Sys2Proof.Machine

/-! ### What a write leaves on TX (R55) -/

theorem State.written_packet_fail {s : State} {j : Nat} (h : s.draw.write = some j) {p : List Byte} (hp : p.length ≤ 8)
    (t : PacketType) (sq : Word) :
    s.written (encodePacket Config.here t sq p) = (encodePacket Config.here t sq p).take (min j 13) := by
  have hlen : (encodePacket Config.here t sq p).length = 14 := encodePacket_length hp
  rw [State.written_fail h, hlen]

theorem State.writeOk_eq_false {s : State} {j : Nat} (h : s.draw.write = some j) : s.writeOk = false := by
  simp [State.writeOk, h]

/-- The two ends of a write, as R158 and R159 name them. -/
theorem State.written_and_writeOk {s : State} {ok : Bool} {w : List Byte} {t : PacketType} {sq : Word}
    (h : (s.draw.write = none ∧ ok = true ∧ w = encodePacket Config.here t sq []) ∨
      (∃ j, s.draw.write = some j ∧ ok = false ∧ w = (encodePacket Config.here t sq []).take (min j 13))) :
    s.written (encodePacket Config.here t sq []) = w ∧ s.writeOk = ok := by
  obtain ⟨hw, rfl, rfl⟩ | ⟨j, hw, rfl, rfl⟩ := h
  · exact ⟨State.written_ok hw _, s.writeOk_iff.2 hw⟩
  · exact ⟨State.written_packet_fail hw (Nat.zero_le _) t sq, State.writeOk_eq_false hw⟩

/-! ### The CRC unit -/

/-- Settles O9: the row of CRC_BIT; below `POLY`'s lowest bit the message bit stays; no operand but 0 and 1 is taken. -/
theorem crcBitShiftsOneBit : Obligations.CrcBitShiftsOneBit := by
  refine ⟨fun b => ?_, fun b s => ?_, fun b s t h => ?_, fun s n d rest hn hin => ?_⟩
  · cases b <;> rfl
  · have h := (Effect.crcBit (c := Config.here) (s := s) b).exec_eq
    rwa [crcBitStep_eq] at h
  · cases exec_eq_next_iff.1 h
    exact (getLsbD_crcBitStep (poly := Config.here.POLY) rfl s.crc b).trans (by simp)
  · have hops : ∀ m < 2, [Operand.num n] ≠ [.num m] := fun m hm heq => by
      cases heq
      omega
    exact illegalCommandsHaveNoEffect s ⟨0x11, [.num n]⟩ d rest hin
      (.inr (.inr (.inr (.inr (.inr (.inr (.inr (.inl ⟨rfl, hops⟩))))))))

/-- Settles O10: the row of CRC_BYTE, whose step is the table-driven one. -/
theorem crcByteIsTheTableStep : Obligations.CrcByteIsTheTableStep := by
  refine ⟨fun v s => ?_, crcByteStep_eq_crcByteTable⟩
  have h := (Effect.crcByte (c := Config.here) (s := s) v).exec_eq
  rwa [crcByteStep_eq_crcByteTable, crcByteTable, crcTable, wordOf_loByte, wordOf_hiByte_zero] at h

/-- Settles O12: the rows of CRC_INIT and CRC_READ. -/
theorem crcInitAndCrcRead : Obligations.CrcInitAndCrcRead := fun _ => ⟨Effect.crcInit.exec_eq, Effect.crcRead.exec_eq⟩

/-! ### The framer and parser -/

/-- Settles O24: ENCODE's two rows. -/
theorem encodeCommandReturnsTheFrame : Obligations.EncodeCommandReturnsTheFrame := fun t sq _ _ =>
  ⟨fun hp => (Effect.encode hp t sq).exec_eq, fun hp => (Effect.encodeLong hp t sq).exec_eq⟩

/-- Settles O25: DECODE's two rows, with the header fields as numbers. -/
theorem decodeCommandReturnsTheFields : Obligations.DecodeCommandReturnsTheFields := by
  refine fun f s => ⟨fun hf => ?_, fun hf => (Effect.decodeLength hf).exec_eq⟩
  have h := (Effect.decode (c := Config.here) (s := s) hf).exec_eq
  rwa [typeField, seqField, wordOf_eq_ofNat, wordOf_eq_ofNat] at h

/-- Settles O26: TRANSMIT's three rows. -/
theorem transmitWritesOnePacket : Obligations.TransmitWritesOnePacket := by
  refine fun t sq p s => ⟨fun hp => (Effect.transmitLong hp t sq).exec_eq, fun hp hw => ?_, fun j hp hw => ?_⟩
  · have h := (Effect.transmit (c := Config.here) hp (s.writeOk_iff.2 hw) t sq).exec_eq
    rwa [State.written_ok hw] at h
  · have h := (Effect.transmitFail (c := Config.here) hp (State.writeOk_eq_false hw) t sq).exec_eq
    rwa [State.written_packet_fail hw hp] at h

/-- Settles O27: DECODE's row on a frame, whose fields and residue are known. -/
theorem decodeOfEncodeIsValid : Obligations.DecodeOfEncodeIsValid := by
  intro t sq p s hp
  have h := (Effect.decode (c := Config.here) (s := s)
    (encodePacket_length (c := Config.here) (t := t) (sq := sq) hp)).exec_eq
  rw [encodePacket, typeField_frameOf, seqField_frameOf, payloadField_frameOf hp,
    validFlag_iff.2 (residue_frameOf Config.here (wireType t) sq p)] at h
  cases t <;> exact h

/-! ### RECEIVE -/

/-- Settles O30: the rows of RECEIVE that see no packet. -/
theorem receiveIntake : Obligations.ReceiveIntake := fun _ =>
  ⟨fun hrx => (Effect.noPacket hrx).exec_eq, fun hrx hread => (Effect.shortRead (c := Config.here) hrx hread).exec_eq⟩

/-- Settles O34: the in-order rows of the Data packet and of the RECEIVE that finds one. -/
theorem inOrderDataIsAccepted : Obligations.InOrderDataIsAccepted := by
  intro s ok w hwrite
  obtain ⟨hw, hok⟩ := State.written_and_writeOk hwrite
  refine ⟨fun pl => ?_, fun hrx hread hres hty hsq => ?_⟩
  · have h := (Effect.dataInOrder (c := Config.here) (s := s) rfl pl).exec_eq
    rwa [hw, hok] at h
  · have h := (Effect.receiveInOrder (c := Config.here) ⟨hrx, hread, hres⟩ hty hsq).exec_eq
    rwa [hsq, hw, hok] at h

/-- Settles O35: the out-of-order rows of the Data packet and of the RECEIVE that finds one. -/
theorem outOfOrderDataIsNacked : Obligations.OutOfOrderDataIsNacked := by
  intro s ok w hwrite
  obtain ⟨hw, hok⟩ := State.written_and_writeOk hwrite
  refine ⟨fun sq pl hsq => ?_, fun hrx hread hres hty hsq => ?_⟩
  · have h := (Effect.dataOutOfOrder (c := Config.here) hsq pl).exec_eq
    rwa [hw, hok] at h
  · have h := (Effect.receiveOutOfOrder (c := Config.here) ⟨hrx, hread, hres⟩ hty hsq).exec_eq
    rwa [hw, hok] at h

/-- A type of 0, or of 4 and more, is none of the three of R87. -/
theorem ne_wireType_of_reserved {ty : Word} (h : ty = 0x0000 ∨ 0x0004 ≤ ty) (t : PacketType) : ty ≠ wireType t := by
  rintro rfl
  cases t <;> revert h <;> decide

/-- Settles O36: RECEIVE's row for a reserved type. -/
theorem reservedTypeIsDropped : Obligations.ReservedTypeIsDropped := fun _ hrx hread hres hty =>
  (Effect.receiveReserved (c := Config.here) ⟨hrx, hread, hres⟩ (ne_wireType_of_reserved hty .ack)
    (ne_wireType_of_reserved hty .nack) (ne_wireType_of_reserved hty .data)).exec_eq

/-- The result code of R209's first condition that holds. -/
def receiveCode (c : Config) (s : State) : Byte :=
  if s.rx.length < c.N then 0x01
  else if s.draw.read < c.N then 0x82
  else if residue c (s.rx.take c.N) ≠ 0x0000 then 0x81
  else if typeField s.rx = 0x0001 then 0x02
  else if typeField s.rx = 0x0002 then 0x03
  else if typeField s.rx = 0x0003 then (if seqField s.rx = s.expectedSeq then 0x04 else 0x05)
  else 0x06

theorem receiveCode_of_headValid {c : Config} {s : State} (h : s.HeadValid c) :
    receiveCode c s =
      if typeField s.rx = 0x0001 then 0x02
      else if typeField s.rx = 0x0002 then 0x03
      else if typeField s.rx = 0x0003 then (if seqField s.rx = s.expectedSeq then 0x04 else 0x05)
      else 0x06 := by
  rw [receiveCode, if_neg (Nat.not_lt.2 h.rx), if_neg (Nat.not_lt.2 h.read), if_neg (not_not.2 h.residue)]

theorem Effect.response_code {c : Config} {s t : State} (h : Effect c s .receive t) :
    ∃ r, t.response = some r ∧ r.code = receiveCode c s := by
  cases h with
  | noPacket hrx => exact ⟨_, rfl, (if_pos hrx).symm⟩
  | shortRead hrx hread =>
    refine ⟨_, rfl, ?_⟩
    rw [receiveCode, if_neg (Nat.not_lt.2 hrx), if_pos hread, Response.code]
  | badResidue hrx hread hres =>
    refine ⟨_, rfl, ?_⟩
    rw [receiveCode, if_neg (Nat.not_lt.2 hrx), if_neg (Nat.not_lt.2 hread), if_pos hres, Response.code]
  | receiveAck h hty => exact ⟨_, rfl, by simp [receiveCode_of_headValid h, hty, Response.code]⟩
  | receiveNack h hty => exact ⟨_, rfl, by simp [receiveCode_of_headValid h, hty, Response.code]⟩
  | receiveInOrder h hty hsq => exact ⟨_, rfl, by simp [receiveCode_of_headValid h, hty, hsq, Response.code]⟩
  | receiveOutOfOrder h hty hsq => exact ⟨_, rfl, by simp [receiveCode_of_headValid h, hty, hsq, Response.code]⟩
  | receiveReserved h hack hnack hdata =>
    refine ⟨_, rfl, ?_⟩
    rw [receiveCode_of_headValid h, if_neg hack, if_neg hnack, if_neg hdata, Response.code]

/-- Settles O37: each row of RECEIVE answers with the code of the first condition that holds. -/
theorem receiveConditionsInOrder : Obligations.ReceiveConditionsInOrder := by
  intro s
  obtain ⟨t, ht⟩ := exists_effect Config.here .receive s
  obtain ⟨r, hr, hcode⟩ := ht.response_code
  exact ⟨t, r, ht.exec_eq, hr, hcode⟩

/-- Settles O40: the out-of-order row on V32, with the bytes of V39. -/
theorem sequenceTwoBeforeZeroIsNacked : Obligations.SequenceTwoBeforeZeroIsNacked := by
  intro s hseq hread hwrite hrx
  have hnack : encodePacket Config.here .nack 0x0000 [] =
      [0x02, 0x00, 0x00, 0x00, 0x00, 0x00, 0x00, 0x00, 0x00, 0x00, 0x00, 0x00, 0x5E, 0x90] := by decide +kernel
  have hsq : seqField s.rx = 0x0002 := by rw [hrx]; decide
  have h := (outOfOrderDataIsNacked s true _ (.inl ⟨hwrite, rfl, rfl⟩)).2 (by rw [hrx]; decide) hread
    (by rw [hrx]; decide +kernel) (by rw [hrx]; decide) (by rw [hsq, hseq]; decide)
  rw [hseq, hnack, hsq] at h
  rw [h, hrx, hseq]
  rfl

/-! ### Control and status -/

/-- Settles O43: RESET's row. -/
theorem resetAssignsRegisters : Obligations.ResetAssignsRegisters := fun _ => Effect.reset.exec_eq

/-- Settles O44: READ_STATUS's row. -/
theorem readStatusReportsRegisters : Obligations.ReadStatusReportsRegisters := fun _ => Effect.readStatus.exec_eq

/-- Settles O45: CLEAR_NACK's row. -/
theorem clearNackClearsPending : Obligations.ClearNackClearsPending := fun _ => Effect.clearNack.exec_eq

/-- Settles O46: the reset values, and READ_STATUS's row on them. -/
theorem resetStateHoldsResetValues : Obligations.ResetStateHoldsResetValues :=
  ⟨rfl, rfl, rfl, rfl, readStatusReportsRegisters State.reset⟩

/-! ### Every configuration -/

/-- Settles O60: the rows of `Effect`, which take the configuration. -/
theorem instancesUseTheirParameters : Obligations.InstancesUseTheirParameters := by
  refine fun c s => ⟨Effect.crcInit.execOn_eq, Effect.reset.execOn_eq, fun b => ?_, fun v => ?_,
    fun t sq p => ⟨fun hp => ⟨(Effect.encode hp t sq).execOn_eq, fun hw => ?_⟩,
      fun hp => ⟨(Effect.encodeLong hp t sq).execOn_eq, (Effect.transmitLong hp t sq).execOn_eq⟩⟩,
    fun f => ⟨fun hf => (Effect.decode hf).execOn_eq, fun hf => (Effect.decodeLength hf).execOn_eq⟩,
    fun hrx => (Effect.noPacket hrx).execOn_eq, fun hrx hread hw hres hty hsq => ?_⟩
  · have h := (Effect.crcBit (c := c) (s := s) b).execOn_eq
    rwa [crcBitStep_eq] at h
  · have h := (Effect.crcByte (c := c) (s := s) v).execOn_eq
    rwa [crcByteStep_eq_crcByteTable] at h
  · have h := (Effect.transmit (c := c) hp (s.writeOk_iff.2 hw) t sq).execOn_eq
    rwa [State.written_ok hw] at h
  · have h := (Effect.receiveInOrder (c := c) ⟨hrx, hread, hres⟩ hty hsq).execOn_eq
    rwa [hsq, State.written_ok hw, s.writeOk_iff.2 hw] at h

end Sys2Proof.Machine
end

section
/-! PROOFS. The statements about the whole machine (60_exceptions.md; 20_memory.md R53 to R61; 10_state.md R20 to R30): each
is a case analysis on the rows of `Effect`. -/

namespace Sys2Proof

/-! ### The fields of a packet do not see what follows it -/

theorem typeField_append {f : List Byte} (h : 2 ≤ f.length) (e : List Byte) : typeField (f ++ e) = typeField f := by
  rw [← typeField_take h, List.take_left' rfl]

theorem seqField_append {f : List Byte} (h : 4 ≤ f.length) (e : List Byte) : seqField (f ++ e) = seqField f := by
  rw [← seqField_take h, List.take_left' rfl]

theorem payloadField_append {c : Config} {f : List Byte} (h : c.N ≤ f.length) (e : List Byte) :
    payloadField c (f ++ e) = payloadField c f := by
  rw [← payloadField_take, List.take_append_of_le_length h, payloadField_take]

theorem payloadField_length_of_le {c : Config} {f : List Byte} (h : c.N ≤ f.length) :
    (payloadField c f).length = c.D := by
  rw [← payloadField_take, payloadField_length (List.length_take_of_le h)]

theorem four_le_N (c : Config) : 4 ≤ c.N := by unfold Config.N; omega

theorem encodePacket_ne_nil (c : Config) (t : PacketType) (sq : Word) (p : List Byte) : encodePacket c t sq p ≠ [] :=
  List.cons_ne_nil _ _

end Sys2Proof

namespace Sys2Proof.Machine

/-! ### What reaches TX (R55) -/

theorem State.written_eq_iff {bs : List Byte} (hbs : bs ≠ []) (s : State) : s.written bs = bs ↔ s.draw.write = none := by
  refine ⟨fun h => ?_, fun h => State.written_ok h bs⟩
  cases hw : s.draw.write with
  | none => rfl
  | some j =>
    have hlen := congrArg List.length ((State.written_fail hw bs).symm.trans h)
    have hpos := List.length_pos_iff.2 hbs
    rw [List.length_take] at hlen
    omega

theorem State.writeOk_iff_written (s : State) (t : PacketType) (sq : Word) (p : List Byte) (c : Config) :
    s.writeOk = true ↔ s.written (encodePacket c t sq p) = encodePacket c t sq p := by
  rw [State.written_eq_iff (encodePacket_ne_nil c t sq p), s.writeOk_iff]

/-- One packet: whole when the write succeeds, a strict part of it from the front when it fails. -/
theorem State.written_packet (s : State) (t : PacketType) (sq : Word) (p : List Byte) (c : Config) :
    (s.draw.write = none → s.written (encodePacket c t sq p) = encodePacket c t sq p) ∧
    (s.draw.write ≠ none → s.written (encodePacket c t sq p) <+: encodePacket c t sq p ∧
      s.written (encodePacket c t sq p) ≠ encodePacket c t sq p) :=
  ⟨fun hw => State.written_ok hw _,
    fun hw => ⟨s.written_prefix _, mt (State.written_eq_iff (encodePacket_ne_nil c t sq p) s).1 hw⟩⟩

/-! ### Packets on RX -/

/-- Settles O3: RECEIVE finds the packet whole and valid, and the type dispatch agrees with the packet decoder. -/
theorem stepRunsDecodedPacket : Obligations.StepRunsDecodedPacket := by
  intro s d rest f tail i hin hread hrx hdec
  obtain ⟨hlen, hres, hrow⟩ := decodePacket_eq_ok hdec
  obtain ⟨t, hty, rfl⟩ := packetInstr_eq_ok hrow
  have hlen14 : f.length = 14 := hlen
  have htake : s.rx.take 14 = f := by rw [hrx, List.take_left' hlen14]
  have hdrop : s.rx.drop 14 = tail := by rw [hrx, List.drop_left' hlen14]
  have hwhole : 14 ≤ s.rx.length := by rw [hrx, List.length_append]; omega
  have hstep : step s = exec .receive { s with inputs := rest, draw := d } :=
    stepRunsDecodedCommand s _ d rest .receive hin rfl
  rw [hstep, exec_receive_of_residue_eq_zero (s := { s with inputs := rest, draw := d }) hwhole hread
    (by rw [htake]; exact hres)]
  dsimp only
  rw [hdrop, hrx, typeField_append (by omega), seqField_append (by omega), payloadField_append hlen.ge, hty]
  cases t <;> rfl

/-- Settles O38: R161's table, row by row. -/
theorem receiveConsumesByOutcome : Obligations.ReceiveConsumesByOutcome := by
  intro s t h
  have hsame : ∀ s : State, s.sameRegisters s := fun _ => ⟨rfl, rfl, rfl, rfl, rfl⟩
  have hnil : s.tx = s.tx ++ [] := (List.append_nil _).symm
  cases exec_eq_next_iff.1 h with
  | noPacket hrx => exact ⟨_, [], rfl, hnil, .inl ⟨rfl, rfl, rfl, rfl, hsame s⟩⟩
  | shortRead hrx hread =>
    exact ⟨_, [], rfl, hnil, .inr (.inl ⟨_, rfl, rfl, hread, hread.le.trans hrx, rfl, rfl, hsame s⟩)⟩
  | badResidue hrx hread hres =>
    exact ⟨_, [], rfl, hnil, .inr (.inr ⟨rfl, hrx, rfl, .inl ⟨rfl, rfl, hsame s⟩⟩)⟩
  | receiveAck hv hty =>
    exact ⟨_, [], rfl, hnil, .inr (.inr ⟨rfl, hv.rx, rfl, .inr (.inl ⟨_, rfl, rfl, hsame _⟩)⟩)⟩
  | receiveNack hv hty =>
    exact ⟨_, [], rfl, hnil, .inr (.inr ⟨rfl, hv.rx, rfl, .inr (.inr (.inl ⟨_, rfl, rfl, hsame _⟩))⟩)⟩
  | receiveInOrder hv hty hsq =>
    refine ⟨_, _, rfl, rfl, .inr (.inr ⟨rfl, hv.rx, rfl, .inr (.inr (.inr (.inl
      ⟨_, _, _, rfl, hsq, s.written_prefix _, s.writeOk_iff_written .ack _ [] Config.here, ?_⟩)))⟩)⟩
    rw [hsq]
    exact hsame { s with expectedSeq := s.expectedSeq + 1 }
  | receiveOutOfOrder hv hty hsq =>
    exact ⟨_, _, rfl, rfl, .inr (.inr ⟨rfl, hv.rx, rfl, .inr (.inr (.inr (.inr (.inl
      ⟨_, _, _, rfl, rfl, hsq, s.written_prefix _, s.writeOk_iff_written .nack _ [] Config.here, hsame s⟩))))⟩)⟩
  | receiveReserved hv hack hnack hdata =>
    exact ⟨_, [], rfl, hnil, .inr (.inr ⟨rfl, hv.rx, rfl, .inr (.inr (.inr (.inr (.inr ⟨_, _, rfl, rfl, hsame s⟩))))⟩)⟩

theorem State.HeadValid.append_rx {c : Config} {s : State} (h : s.HeadValid c) (extra : List Byte) :
    ({ s with rx := s.rx ++ extra } : State).HeadValid c where
  rx := by rw [List.length_append]; exact h.rx.trans (Nat.le_add_right _ _)
  read := h.read
  residue := by rw [List.take_append_of_le_length h.rx]; exact h.residue

/-- RECEIVE takes the same row whatever follows the packet, and leaves that in place. -/
theorem Effect.append_rx {c : Config} {s t : State} (h : Effect c s .receive t) (hrx : c.N ≤ s.rx.length)
    (extra : List Byte) :
    Effect c { s with rx := s.rx ++ extra } .receive { t with rx := t.rx ++ extra } := by
  have h4 := (four_le_N c).trans hrx
  have hty : typeField (s.rx ++ extra) = typeField s.rx := typeField_append (by omega) extra
  have hseq : seqField (s.rx ++ extra) = seqField s.rx := seqField_append h4 extra
  have hpl : payloadField c (s.rx ++ extra) = payloadField c s.rx := payloadField_append hrx extra
  have htake : (s.rx ++ extra).take c.N = s.rx.take c.N := List.take_append_of_le_length hrx
  have hdrop : ∀ k ≤ c.N, s.rx.drop k ++ extra = (s.rx ++ extra).drop k := fun k hk =>
    (List.drop_append_of_le_length (hk.trans hrx)).symm
  have hlen : c.N ≤ (s.rx ++ extra).length := by rw [List.length_append]; omega
  cases h with
  | noPacket h => omega
  | shortRead _ hread =>
    dsimp only
    rw [hdrop _ hread.le]
    exact .shortRead hlen hread
  | badResidue _ hread hres =>
    dsimp only
    rw [hdrop _ le_rfl]
    exact .badResidue hlen hread (htake ▸ hres)
  | receiveAck h hack =>
    dsimp only
    rw [hdrop _ le_rfl, ← hseq]
    exact .receiveAck (h.append_rx extra) (hty.trans hack)
  | receiveNack h hnack =>
    dsimp only
    rw [hdrop _ le_rfl, ← hseq]
    exact .receiveNack (h.append_rx extra) (hty.trans hnack)
  | receiveInOrder h hdata hsq =>
    dsimp only
    rw [hdrop _ le_rfl, ← hseq, ← hpl]
    exact .receiveInOrder (h.append_rx extra) (hty.trans hdata) (hseq.trans hsq)
  | receiveOutOfOrder h hdata hsq =>
    dsimp only
    rw [hdrop _ le_rfl, ← hseq]
    exact .receiveOutOfOrder (h.append_rx extra) (hty.trans hdata) (hseq.symm ▸ hsq)
  | receiveReserved h hack hnack hdata =>
    dsimp only
    rw [hdrop _ le_rfl, ← hseq, ← hty]
    exact .receiveReserved (h.append_rx extra) (hty.symm ▸ hack) (hty.symm ▸ hnack) (hty.symm ▸ hdata)

/-- Settles O54: the same row runs with more behind the packet. -/
theorem receiveReadsOnlyTheHead : Obligations.ReceiveReadsOnlyTheHead := fun _ _ extra hrx h =>
  ((exec_eq_next_iff.1 h).append_rx (c := Config.here) hrx extra).exec_eq

/-! ### Responses and registers -/

theorem Effect.exists_response {c : Config} {i : Instr} {s t : State} (h : Effect c s i t) :
    ∃ r, t.response = some r := by
  cases h <;> exact ⟨_, rfl⟩

/-- Settles O47: every row leaves a response. -/
theorem everyInstructionResponds : Obligations.EveryInstructionResponds := by
  intro i s
  obtain ⟨t, ht⟩ := exists_effect Config.here i s
  obtain ⟨r, hr⟩ := ht.exists_response
  exact ⟨t, r, ht.exec_eq, hr⟩

/-- Settles O48: the two columns of R201, response by response. -/
theorem resultCodesAndErrors : Obligations.ResultCodesAndErrors := by
  refine ⟨fun a b c d e f g => ?_, fun r => ?_⟩
  · exact ⟨rfl, rfl, rfl, rfl, rfl, rfl, rfl, rfl, rfl, rfl, rfl, rfl, rfl, rfl, fun _ => rfl⟩
  · cases r <;> simp [Response.isError, Response.code]

/-- Settles O49: a row that changes a register belongs to one of its writers. -/
theorem registersHaveTheirWriters : Obligations.RegistersHaveTheirWriters := by
  intro i s t h
  cases exec_eq_next_iff.1 h <;> simp

/-- Settles O52: which rows change a channel. -/
theorem channelsAreTouchedOnlyAsListed : Obligations.ChannelsAreTouchedOnlyAsListed := by
  intro i s t h
  cases exec_eq_next_iff.1 h <;> simp

end Sys2Proof.Machine
end

section
/-! PROOFS. What an instruction can change, and what it does not read (10_state.md R22, R30; 20_memory.md R55;
42_receive.md R157; 60_exceptions.md R205): each is a case analysis on the rows of `Effect`. -/

namespace Sys2Proof.Machine

/-! ### Errors, channels and deliveries -/

/-- Settles O50: the rows that answer with an error; the others' responses are none. -/
theorem errorsArePrecise : Obligations.ErrorsArePrecise := by
  intro i s t r h hr herr
  have hdrop : ∃ k ≤ 14, s.rx = s.rx.drop k := ⟨0, Nat.zero_le _, rfl⟩
  have hsame : s.sameRegisters s := ⟨rfl, rfl, rfl, rfl, rfl⟩
  cases exec_eq_next_iff.1 h with
  | encodeLong | decodeLength | transmitLong => exact ⟨hsame, rfl, fun _ => rfl, hdrop, .inl rfl⟩
  | shortRead hrx hread => exact ⟨hsame, rfl, fun hi => absurd rfl hi, ⟨_, hread.le, rfl⟩, .inl rfl⟩
  | badResidue hrx hread hres => exact ⟨hsame, rfl, fun hi => absurd rfl hi, ⟨_, le_rfl, rfl⟩, .inl rfl⟩
  | transmitFail hp hw ty sq =>
    have hfail : s.draw.write ≠ none := fun hnone => by simp [s.writeOk_iff.2 hnone] at hw
    obtain ⟨hpre, hne⟩ := (s.written_packet ty sq _ Config.here).2 hfail
    exact ⟨hsame, rfl, fun _ => rfl, hdrop, .inr ⟨ty, sq, _, _, rfl, rfl, hpre, hne⟩⟩
  | _ =>
    obtain rfl := Option.some.inj hr
    cases herr

/-- Settles O51: a row writes nothing, or the one packet that `State.written_packet` speaks of. -/
theorem txGainsAtMostOnePacket : Obligations.TxGainsAtMostOnePacket := by
  intro i s t h
  have hempty : ([] : List Byte).length ≤ 8 := Nat.zero_le _
  cases exec_eq_next_iff.1 h with
  | transmit hp hw ty sq => exact ⟨_, rfl, .inr ⟨ty, sq, _, hp, s.written_packet ty sq _ Config.here⟩⟩
  | transmitFail hp hw ty sq => exact ⟨_, rfl, .inr ⟨ty, sq, _, hp, s.written_packet ty sq _ Config.here⟩⟩
  | dataInOrder | receiveInOrder => exact ⟨_, rfl, .inr ⟨.ack, _, [], hempty, s.written_packet .ack _ [] Config.here⟩⟩
  | dataOutOfOrder | receiveOutOfOrder =>
    exact ⟨_, rfl, .inr ⟨.nack, _, [], hempty, s.written_packet .nack _ [] Config.here⟩⟩
  | _ => exact ⟨[], (List.append_nil _).symm, .inl rfl⟩

/-- Settles O53: only the two in-order rows deliver. -/
theorem oneDeliveryPerAcceptedPacket : Obligations.OneDeliveryPerAcceptedPacket := by
  intro i s t h
  cases exec_eq_next_iff.1 h with
  | dataInOrder hsq pl =>
    subst hsq
    exact .inr ⟨pl, rfl, rfl, nofun⟩
  | receiveInOrder hv hty hsq =>
    refine .inr ⟨payloadField Config.here s.rx, ?_, rfl, fun _ => payloadField_length_of_le hv.rx⟩
    rw [← hsq, slotOf]
  | reset | dataOutOfOrder => exact .inl ⟨rfl, nofun⟩
  | _ => exact .inl ⟨rfl, fun _ => rfl⟩

/-! ### What the rows do not read (R22, R30) -/

theorem State.HeadValid.of_eq {c : Config} {s s' : State} (h : s.HeadValid c) (hrx : s'.rx = s.rx)
    (hdraw : s'.draw = s.draw) : s'.HeadValid c where
  rx := hrx ▸ h.rx
  read := hdraw ▸ h.read
  residue := hrx ▸ h.residue

/-- The commands of the streaming CRC unit, and RESET. -/
def usesCrc : Instr → Bool
  | .reset | .crcInit | .crcBit _ | .crcByte _ | .crcRead => true
  | _ => false

/-- The other rows neither read nor write CRC. -/
theorem Effect.setCrc {c : Config} {i : Instr} {s t : State} (h : Effect c s i t) (hi : usesCrc i = false) (v : Word) :
    t.crc = s.crc ∧ Effect c (s.setCrc v) i (t.setCrc v) := by
  cases h with
  | reset | crcInit | crcBit | crcByte | crcRead => cases hi
  | encode hp ty sq => exact ⟨rfl, .encode hp ty sq⟩
  | encodeLong hp ty sq => exact ⟨rfl, .encodeLong hp ty sq⟩
  | decode hf => exact ⟨rfl, .decode hf⟩
  | decodeLength hf => exact ⟨rfl, .decodeLength hf⟩
  | transmit hp hw ty sq => exact ⟨rfl, .transmit (s := s.setCrc v) hp hw ty sq⟩
  | transmitFail hp hw ty sq => exact ⟨rfl, .transmitFail (s := s.setCrc v) hp hw ty sq⟩
  | transmitLong hp ty sq => exact ⟨rfl, .transmitLong hp ty sq⟩
  | readStatus => exact ⟨rfl, .readStatus⟩
  | clearNack => exact ⟨rfl, .clearNack⟩
  | ack sq pl => exact ⟨rfl, .ack sq pl⟩
  | nack sq pl => exact ⟨rfl, .nack sq pl⟩
  | dataInOrder hsq pl => exact ⟨rfl, .dataInOrder (s := s.setCrc v) hsq pl⟩
  | dataOutOfOrder hsq pl => exact ⟨rfl, .dataOutOfOrder (s := s.setCrc v) hsq pl⟩
  | noPacket hrx => exact ⟨rfl, .noPacket (s := s.setCrc v) hrx⟩
  | shortRead hrx hread => exact ⟨rfl, .shortRead (s := s.setCrc v) hrx hread⟩
  | badResidue hrx hread hres => exact ⟨rfl, .badResidue (s := s.setCrc v) hrx hread hres⟩
  | receiveAck hv hty => exact ⟨rfl, .receiveAck (s := s.setCrc v) (hv.of_eq rfl rfl) hty⟩
  | receiveNack hv hty => exact ⟨rfl, .receiveNack (s := s.setCrc v) (hv.of_eq rfl rfl) hty⟩
  | receiveInOrder hv hty hsq => exact ⟨rfl, .receiveInOrder (s := s.setCrc v) (hv.of_eq rfl rfl) hty hsq⟩
  | receiveOutOfOrder hv hty hsq => exact ⟨rfl, .receiveOutOfOrder (s := s.setCrc v) (hv.of_eq rfl rfl) hty hsq⟩
  | receiveReserved hv hack hnack hdata =>
    exact ⟨rfl, .receiveReserved (s := s.setCrc v) (hv.of_eq rfl rfl) hack hnack hdata⟩

/-- Settles O55: the instruction's row holds with any CRC. -/
theorem packetCommandsIgnoreCrc : Obligations.PacketCommandsIgnoreCrc := by
  intro i s t v hreset hinit hbit hbyte hread h
  have hi : usesCrc i = false := by
    cases i with
    | reset => exact absurd rfl hreset
    | crcInit => exact absurd rfl hinit
    | crcBit b => exact absurd rfl (hbit b)
    | crcByte x => exact absurd rfl (hbyte x)
    | crcRead => exact absurd rfl hread
    | _ => rfl
  obtain ⟨hcrc, heff⟩ := (exec_eq_next_iff.1 h).setCrc hi v
  exact ⟨hcrc, heff.exec_eq⟩

/-- The state with another value in NACK_SEQ, as power-on may leave it (I3). -/
def State.withNackSeq (v : Word) (s : State) : State := { s with nackSeq := v }

theorem State.eraseHidden_of_pending {s : State} (h : s.nackPending = true) : s.eraseHidden = s := if_pos h

theorem State.eraseHidden_of_not_pending {s : State} (h : s.nackPending = false) : s.eraseHidden = s.withNackSeq 0 :=
  if_neg (ne_true_of_eq_false h)

theorem State.eraseHidden_withNackSeq {s : State} (h : s.nackPending = false) (v : Word) :
    (s.withNackSeq v).eraseHidden = s.eraseHidden := by
  rw [State.eraseHidden_of_not_pending h, State.eraseHidden_of_not_pending (s := s.withNackSeq v) h]
  rfl

@[simp] theorem State.eraseHidden_nackPending (s : State) : s.eraseHidden.nackPending = s.nackPending := by
  cases h : s.nackPending
  · rw [State.eraseHidden_of_not_pending h]
    exact h
  · rw [State.eraseHidden_of_pending h, h]

/-- Two states that agree up to a hidden NACK_SEQ are equal, or differ in it alone. -/
theorem State.eq_or_withNackSeq_of_eraseHidden_eq {s s' : State} (h : s.eraseHidden = s'.eraseHidden) :
    s' = s ∨ (s.nackPending = false ∧ ∃ v, s' = s.withNackSeq v) := by
  have hpend : s.nackPending = s'.nackPending := by
    simpa using congrArg State.nackPending h
  cases hs : s.nackPending with
  | true =>
    rw [State.eraseHidden_of_pending hs, State.eraseHidden_of_pending (hpend ▸ hs)] at h
    exact .inl h.symm
  | false =>
    rw [State.eraseHidden_of_not_pending hs, State.eraseHidden_of_not_pending (hpend ▸ hs)] at h
    exact .inr ⟨rfl, s'.nackSeq, (congrArg (State.withNackSeq s'.nackSeq) h).symm⟩

/-- While no Nack is pending a row holds with any NACK_SEQ: it keeps that value and leaves it hidden, or writes
NACK_SEQ. -/
theorem Effect.withNackSeq {c : Config} {i : Instr} {s t : State} (h : Effect c s i t) (hs : s.nackPending = false)
    (v : Word) :
    (Effect c (s.withNackSeq v) i (t.withNackSeq v) ∧ t.nackPending = false) ∨ Effect c (s.withNackSeq v) i t := by
  cases h with
  | reset => exact .inl ⟨.reset, rfl⟩
  | crcInit => exact .inl ⟨.crcInit, hs⟩
  | crcBit b => exact .inl ⟨.crcBit (s := s.withNackSeq v) b, hs⟩
  | crcByte x => exact .inl ⟨.crcByte (s := s.withNackSeq v) x, hs⟩
  | crcRead => exact .inl ⟨.crcRead, hs⟩
  | readStatus =>
    have hvalue : (s.withNackSeq v).nackValue = s.nackValue := by
      rw [State.nackValue_none hs, State.nackValue_none (s := s.withNackSeq v) hs]
    rw [← hvalue]
    exact .inl ⟨.readStatus, hs⟩
  | clearNack => exact .inl ⟨.clearNack, rfl⟩
  | nack sq pl => exact .inr (.nack sq pl)
  | receiveNack hv hty => exact .inr (.receiveNack (s := s.withNackSeq v) (hv.of_eq rfl rfl) hty)
  | encode hp ty sq => exact .inl ⟨.encode hp ty sq, hs⟩
  | encodeLong hp ty sq => exact .inl ⟨.encodeLong hp ty sq, hs⟩
  | decode hf => exact .inl ⟨.decode hf, hs⟩
  | decodeLength hf => exact .inl ⟨.decodeLength hf, hs⟩
  | transmit hp hw ty sq => exact .inl ⟨.transmit (s := s.withNackSeq v) hp hw ty sq, hs⟩
  | transmitFail hp hw ty sq => exact .inl ⟨.transmitFail (s := s.withNackSeq v) hp hw ty sq, hs⟩
  | transmitLong hp ty sq => exact .inl ⟨.transmitLong hp ty sq, hs⟩
  | ack sq pl => exact .inl ⟨.ack sq pl, hs⟩
  | dataInOrder hsq pl => exact .inl ⟨.dataInOrder (s := s.withNackSeq v) hsq pl, hs⟩
  | dataOutOfOrder hsq pl => exact .inl ⟨.dataOutOfOrder (s := s.withNackSeq v) hsq pl, hs⟩
  | noPacket hrx => exact .inl ⟨.noPacket (s := s.withNackSeq v) hrx, hs⟩
  | shortRead hrx hread => exact .inl ⟨.shortRead (s := s.withNackSeq v) hrx hread, hs⟩
  | badResidue hrx hread hres => exact .inl ⟨.badResidue (s := s.withNackSeq v) hrx hread hres, hs⟩
  | receiveAck hv hty => exact .inl ⟨.receiveAck (s := s.withNackSeq v) (hv.of_eq rfl rfl) hty, hs⟩
  | receiveInOrder hv hty hsq => exact .inl ⟨.receiveInOrder (s := s.withNackSeq v) (hv.of_eq rfl rfl) hty hsq, hs⟩
  | receiveOutOfOrder hv hty hsq => exact .inl ⟨.receiveOutOfOrder (s := s.withNackSeq v) (hv.of_eq rfl rfl) hty hsq, hs⟩
  | receiveReserved hv hack hnack hdata =>
    exact .inl ⟨.receiveReserved (s := s.withNackSeq v) (hv.of_eq rfl rfl) hack hnack hdata, hs⟩

/-- A step does the same whatever is hidden in NACK_SEQ. -/
theorem step_withNackSeq {s : State} (hs : s.nackPending = false) (v : Word) :
    ∃ t t', step s = .next t ∧ step (s.withNackSeq v) = .next t' ∧ t.eraseHidden = t'.eraseHidden := by
  obtain ⟨hidle, harrive, htake, hpower⟩ := environmentActsBetweenCommands (s.withNackSeq v)
  have hkeep : ∀ t : State, t.nackPending = false → t.eraseHidden = (t.withNackSeq v).eraseHidden :=
    fun t ht => (State.eraseHidden_withNackSeq ht v).symm
  obtain ⟨hin, h⟩ | ⟨bs, rest, hin, h⟩ | ⟨n, rest, hin, h⟩ | ⟨w, rest, hin, h⟩ | ⟨k, d, rest, i, hin, hk, h⟩ |
    ⟨k, d, rest, hin, hk, h⟩ := step_cases s
  · exact ⟨_, _, h, hidle hin, hkeep s hs⟩
  · exact ⟨_, _, h, harrive bs rest hin, hkeep ((s.popInput rest).arrive bs) hs⟩
  · exact ⟨_, _, h, htake n rest hin, hkeep ((s.popInput rest).takeTx n) hs⟩
  · exact ⟨_, _, h, hpower w rest hin, rfl⟩
  · obtain ⟨t, ht⟩ := exists_effect Config.here i ((s.popInput rest).setDraw d)
    have hstep : ∀ t', Effect Config.here (((s.popInput rest).setDraw d).withNackSeq v) i t' →
        step (s.withNackSeq v) = .next t' := fun t' ht' => step_of_effect hin (portInstr_eq_some.1 hk) ht'
    obtain ⟨ht', hpend⟩ | ht' := ht.withNackSeq hs v
    · exact ⟨t, _, h.trans ht.exec_eq, hstep _ ht', hkeep t hpend⟩
    · exact ⟨t, t, h.trans ht.exec_eq, hstep t ht', rfl⟩
  · have hrefused : ∀ i, decode (.command k) ≠ .ok i := fun i hi => by
      rw [portInstr_eq_some.2 hi] at hk
      cases hk
    exact ⟨_, _, h, step_of_refused hin hrefused, hkeep (((s.popInput rest).setDraw d).illegalCommand k.opcode) hs⟩

/-- The step is total. -/
theorem exists_step_eq (s : State) : ∃ t, step s = .next t := by
  obtain ⟨-, h⟩ | ⟨_, _, -, h⟩ | ⟨_, _, -, h⟩ | ⟨_, _, -, h⟩ | ⟨k, d, rest, i, -, -, h⟩ | ⟨_, _, _, -, -, h⟩ :=
    step_cases s
  case inr.inr.inr.inr.inl =>
    obtain ⟨t, ht⟩ := exists_effect Config.here i ((s.popInput rest).setDraw d)
    exact ⟨t, h.trans ht.exec_eq⟩
  all_goals exact ⟨_, h⟩

/-- Settles O56: the two states are equal, or differ in a hidden NACK_SEQ alone, and then every row holds of both. -/
theorem hiddenNackSeqIsUnobservable : Obligations.HiddenNackSeqIsUnobservable := by
  intro s s' h
  obtain rfl | ⟨hs, v, rfl⟩ := State.eq_or_withNackSeq_of_eraseHidden_eq h
  · obtain ⟨t, ht⟩ := exists_step_eq s'
    exact ⟨t, t, ht, ht, rfl⟩
  · exact step_withNackSeq hs v

end Sys2Proof.Machine
end

section
/-! PROOFS. The invariant of Safety.lean: every row of `Effect`, and so every step, keeps it. -/

namespace Sys2Proof.Machine

/-! ### The invariant (20_memory.md R56; 60_exceptions.md R201) -/

/-- A transition that delivers nothing needs a well-formed response. -/
theorem State.InvOn.of_response {c : Config} {s t : State} {r : Response} (hs : s.InvOn c)
    (hdel : t.delivered = s.delivered) (hresp : t.response = some r) (hr : r.wfOn c = true) : t.InvOn c :=
  ⟨hdel ▸ hs.1, by rw [hresp]; exact fun _ hmem => Option.some.inj hmem ▸ hr⟩

/-- One that delivers needs a well-formed record too. -/
theorem State.InvOn.of_delivery {c : Config} {s t : State} {r : Response} {slot : Nat} {pl : List Byte}
    (hs : s.InvOn c) (hdel : t.delivered = s.delivered ++ [⟨slot, pl⟩]) (hslot : slot < c.B) (hpl : pl.length = c.D)
    (hresp : t.response = some r) (hr : r.wfOn c = true) : t.InvOn c := by
  refine ⟨fun record hmem => ?_, by rw [hresp]; exact fun _ hmem => Option.some.inj hmem ▸ hr⟩
  rw [hdel, List.mem_append, List.mem_singleton] at hmem
  obtain hmem | rfl := hmem
  · exact hs.1 record hmem
  · simp [Delivery.wfOn, hslot, hpl]

theorem Response.wfOn_dataAccepted {c : Config} (hc : c.wf) (sq : Word) (ok : Bool) :
    (Response.dataAccepted sq (slotOf c sq) ok).wfOn c = true := by
  simp [Response.wfOn, slotOf_lt hc sq]

theorem Response.wfOn_okFrame {c : Config} {p : List Byte} (hp : p.length ≤ c.D) (t : PacketType) (sq : Word) :
    (Response.okFrame (encodePacket c t sq p)).wfOn c = true := by
  have hvalid : validFlag c (encodePacket c t sq p) = true := validFlag_iff.2 (residue_frameOf c _ sq p)
  simp [Response.wfOn, encodePacket_length hp, hvalid]

/-- Every row of a well-formed instruction keeps the invariant. -/
theorem Effect.keeps_inv {c : Config} (hc : c.wf) {i : Instr} (hi : i.wfOn c = true) {s t : State} (hs : s.InvOn c)
    (h : Effect c s i t) : t.InvOn c := by
  cases h with
  | encode hp ty sq => exact hs.of_response rfl rfl (Response.wfOn_okFrame hp ty sq)
  | decode hf => exact hs.of_response rfl rfl (by simp [Response.wfOn, payloadField_length hf])
  | dataInOrder hsq pl =>
    exact hs.of_delivery rfl (slotOf_lt hc _) (beq_iff_eq.1 hi) rfl (Response.wfOn_dataAccepted hc _ _)
  | dataOutOfOrder hsq pl => exact hs.of_response rfl rfl (by simp [Response.wfOn, hsq])
  | shortRead hrx hread => exact hs.of_response rfl rfl (by simp [Response.wfOn, hread])
  | receiveInOrder hv hty hsq =>
    exact hs.of_delivery rfl (slotOf_lt hc _) (payloadField_length_of_le hv.rx) rfl (Response.wfOn_dataAccepted hc _ _)
  | receiveOutOfOrder hv hty hsq => exact hs.of_response rfl rfl (by simp [Response.wfOn, hsq])
  | receiveReserved hv hack hnack hdata =>
    refine hs.of_response rfl rfl ?_
    simpa [Response.wfOn] using ⟨⟨hack, hnack⟩, hdata⟩
  | _ => exact hs.of_response rfl rfl rfl

/-- The command port takes only well-formed instructions, so every step keeps it. -/
theorem stepOn_keeps_inv {c : Config} (hc : c.wf) {s t : State} (hs : s.InvOn c) (h : stepOn c s = .next t) :
    t.InvOn c := by
  obtain ⟨-, heq⟩ | ⟨_, _, -, heq⟩ | ⟨_, _, -, heq⟩ | ⟨_, _, -, heq⟩ | ⟨k, d, rest, i, -, hk, heq⟩ |
    ⟨k, d, rest, -, -, heq⟩ := stepWith_cases c (execOn c) s
  case inr.inr.inr.inr.inl =>
    have hi : i.wfOn c = true := (decodedWordsAreEncodings c (.command k) i (portInstr_eq_some.1 hk)).1
    exact (execOn_eq_next_iff.1 (heq.symm.trans h)).keeps_inv (s := (s.popInput rest).setDraw d) hc hi hs
  case inr.inr.inr.inr.inr =>
    obtain rfl := Host.Outcome.next.inj (heq.symm.trans h)
    exact hs.of_response rfl rfl rfl
  all_goals
    obtain rfl := Host.Outcome.next.inj (heq.symm.trans h)
    exact hs

/-- Settles O57: nothing has been delivered or answered at reset. -/
theorem wellFormednessHoldsAtReset : Obligations.WellFormednessHoldsAtReset := ⟨nofun, nofun⟩

/-- Settles O58: this machine is the configuration `Config.here`, which is well formed. -/
theorem wellFormednessIsKept : Obligations.WellFormednessIsKept :=
  ⟨fun s _ hs h => stepOn_keeps_inv here_wf hs ((step_eq_stepOn s).symm.trans h),
    fun _ hc _ _ hs h => stepOn_keeps_inv hc hs h⟩

end Sys2Proof.Machine
end

section
/-! PROOFS. Runs, and the streams of CRC commands (40_crc.md R112, R114). -/

namespace Sys2Proof.Machine

/-! ### Runs -/

theorem run_succ {s s' : State} (h : step s = .next s') (n : Nat) :
    Host.Core.run core (n + 1) s = Host.Core.run core n s' := by
  have hcore : core.step s = .next s' := h
  simp only [Host.Core.run, hcore]

/-- A command that decodes, then the rest of the run. -/
theorem run_command {s t : State} {k : Command} {d : Draw} {rest : List Input} {i : Instr}
    (hin : s.inputs = .command k d :: rest) (hk : decode (.command k) = .ok i)
    (h : Effect Config.here { s with inputs := rest, draw := d } i t) (n : Nat) :
    Host.Core.run core (n + 1) s = Host.Core.run core n t :=
  run_succ (step_of_effect hin hk h) n

/-! ### Streams of CRC commands (R112, R114) -/

theorem decode_crcByte (v : Byte) : decode (.command ⟨0x12, [.num v.toNat]⟩) = .ok (.crcByte v) :=
  commandsDecodeToThemselves (.crcByte v) _ rfl

theorem decode_crcBit (b : Bool) : decode (.command ⟨0x11, [.num b.toNat]⟩) = .ok (.crcBit b) :=
  commandsDecodeToThemselves (.crcBit b) _ rfl

/-- The inputs that stream a byte string. -/
def crcByteInputs (d : Draw) (bytes : List Byte) : List Input :=
  bytes.map fun v => .command ⟨0x12, [.num v.toNat]⟩ d

/-- The inputs that stream a bit string. -/
def crcBitInputs (d : Draw) (bs : List Bool) : List Input :=
  bs.map fun b => .command ⟨0x11, [.num b.toNat]⟩ d

/-- What a stream of CRC commands leaves, `v` being the register. -/
def State.afterCrc (s : State) (v : Word) (d : Draw) (rest : List Input) : State :=
  { s with crc := v, inputs := rest, draw := d, response := some .ok }

theorem run_crcByteInputs {s : State} {d : Draw} {bytes : List Byte} {rest : List Input} (hne : bytes ≠ [])
    (hin : s.inputs = crcByteInputs d bytes ++ rest) (n : Nat) :
    Host.Core.run core (n + bytes.length) s =
      Host.Core.run core n (s.afterCrc (crcOf Config.here.POLY s.crc bytes) d rest) := by
  induction bytes generalizing s with
  | nil => exact absurd rfl hne
  | cons v bytes ih =>
    rw [List.length_cons, ← Nat.add_assoc, run_command hin (decode_crcByte v) (.crcByte v)]
    cases bytes with
    | nil => rfl
    | cons w bytes => exact ih (List.cons_ne_nil _ _) rfl

theorem run_crcBitInputs {s : State} {d : Draw} {bs : List Bool} {rest : List Input} (hne : bs ≠ [])
    (hin : s.inputs = crcBitInputs d bs ++ rest) (n : Nat) :
    Host.Core.run core (n + bs.length) s =
      Host.Core.run core n (s.afterCrc (crcBits Config.here.POLY s.crc bs) d rest) := by
  induction bs generalizing s with
  | nil => exact absurd rfl hne
  | cons b bs ih =>
    rw [List.length_cons, ← Nat.add_assoc, run_command hin (decode_crcBit b) (.crcBit b)]
    cases bs with
    | nil => rfl
    | cons w bs => exact ih (List.cons_ne_nil _ _) rfl

/-- Settles O11: both streams leave the CRC of the byte's bits. -/
theorem crcByteIsEightCrcBits : Obligations.CrcByteIsEightCrcBits := by
  intro s v d rest
  refine ⟨_, run_crcByteInputs (List.cons_ne_nil v []) rfl 0, ?_⟩
  exact run_crcBitInputs (bs := bitsOf v) (List.cons_ne_nil _ _) rfl 0

/-- Settles O13: CRC_INIT starts the register, each byte advances it, CRC_READ returns it. -/
theorem streamingCommandsComputeCrc : Obligations.StreamingCommandsComputeCrc := by
  intro s d bytes rest hin
  rw [run_command hin rfl .crcInit]
  cases bytes with
  | nil => exact run_command rfl rfl .crcRead 0
  | cons v bytes =>
    rw [Nat.add_comm, run_crcByteInputs (List.cons_ne_nil v bytes) rfl]
    exact run_command rfl rfl .crcRead 0

end Sys2Proof.Machine
end

section
/-! PROOFS. Frames on RX and the statements about exchanges of them (42_receive.md R162; 70_reset_and_hazards.md R239,
R240; 95_test_vectors.md W5). -/

namespace Sys2Proof.Machine

/-! ### RECEIVE of a frame at the head of RX -/

/-- What RECEIVE sees of a frame at the head of RX, whatever follows it. -/
theorem headValid_of_frame {c : Config} {s : State} {t : PacketType} {sq : Word} {p tail : List Byte}
    (hp : p.length ≤ c.D) (hread : c.N ≤ s.draw.read) (hrx : s.rx = encodePacket c t sq p ++ tail) :
    s.HeadValid c ∧ typeField s.rx = wireType t ∧ seqField s.rx = sq ∧ payloadField c s.rx = padded c p ∧
      s.rx.drop c.N = tail := by
  have hlen : (encodePacket c t sq p).length = c.N := encodePacket_length hp
  have h4 : 4 ≤ (encodePacket c t sq p).length := hlen ▸ four_le_N c
  have htake : s.rx.take c.N = encodePacket c t sq p := by rw [hrx, List.take_left' hlen]
  refine ⟨⟨?_, hread, ?_⟩, ?_, ?_, ?_, ?_⟩
  · rw [hrx, List.length_append, hlen]
    exact Nat.le_add_right _ _
  · rw [htake]
    exact residue_frameOf c _ sq p
  · rw [hrx, typeField_append (by omega)]
    exact typeField_frameOf c _ sq p
  · rw [hrx, seqField_append h4]
    exact seqField_frameOf c _ sq p
  · rw [hrx, payloadField_append hlen.ge]
    exact payloadField_frameOf hp
  · rw [hrx, List.drop_left' hlen]

theorem effect_receive_ack_frame {c : Config} {s : State} {sq : Word} {p tail : List Byte} (hp : p.length ≤ c.D)
    (hread : c.N ≤ s.draw.read) (hrx : s.rx = encodePacket c .ack sq p ++ tail) :
    Effect c s .receive { s with rx := tail, lastAcked := sq, response := some (.ackSeen sq) } := by
  obtain ⟨hv, hty, hsq, -, hdrop⟩ := headValid_of_frame hp hread hrx
  have h := Effect.receiveAck hv hty
  rwa [hsq, hdrop] at h

theorem effect_receive_nack_frame {c : Config} {s : State} {sq : Word} {p tail : List Byte} (hp : p.length ≤ c.D)
    (hread : c.N ≤ s.draw.read) (hrx : s.rx = encodePacket c .nack sq p ++ tail) :
    Effect c s .receive { s with rx := tail, nackPending := true, nackSeq := sq, response := some (.nackSeen sq) } := by
  obtain ⟨hv, hty, hsq, -, hdrop⟩ := headValid_of_frame hp hread hrx
  have h := Effect.receiveNack hv hty
  rwa [hsq, hdrop] at h

/-- What an in-order Data frame with the payload `p` leaves, `tail` being what follows it on RX (R156 to R158). -/
def State.afterData (c : Config) (p tail : List Byte) (s : State) : State := { s with
  rx := tail, expectedSeq := s.expectedSeq + 1, delivered := s.delivered ++ [⟨slotOf c s.expectedSeq, padded c p⟩],
  tx := s.tx ++ encodePacket c .ack s.expectedSeq [],
  response := some (.dataAccepted s.expectedSeq (slotOf c s.expectedSeq) s.writeOk) }

/-- The write of the Ack succeeds. -/
theorem effect_receive_data_frame {c : Config} {s : State} {p tail : List Byte} (hp : p.length ≤ c.D)
    (hread : c.N ≤ s.draw.read) (hwrite : s.draw.write = none)
    (hrx : s.rx = encodePacket c .data s.expectedSeq p ++ tail) : Effect c s .receive (s.afterData c p tail) := by
  obtain ⟨hv, hty, hsq, hpl, hdrop⟩ := headValid_of_frame hp hread hrx
  have h := Effect.receiveInOrder hv hty hsq
  rwa [hsq, hpl, hdrop, State.written_ok hwrite] at h

/-! ### The same as the first step of a run -/

theorem run_receive_ack_frame {s : State} {d : Draw} {rest : List Input} {sq : Word} {p tail : List Byte}
    (hin : s.inputs = .command ⟨0x30, []⟩ d :: rest) (hread : 14 ≤ d.read) (hp : p.length ≤ 8)
    (hrx : s.rx = encodePacket Config.here .ack sq p ++ tail) (n : Nat) :
    Host.Core.run core (n + 1) s = Host.Core.run core n { s with
      inputs := rest, draw := d, rx := tail, lastAcked := sq, response := some (.ackSeen sq) } :=
  run_command hin rfl
    (effect_receive_ack_frame (c := Config.here) (s := { s with inputs := rest, draw := d }) hp hread hrx) n

theorem run_receive_nack_frame {s : State} {d : Draw} {rest : List Input} {sq : Word} {p tail : List Byte}
    (hin : s.inputs = .command ⟨0x30, []⟩ d :: rest) (hread : 14 ≤ d.read) (hp : p.length ≤ 8)
    (hrx : s.rx = encodePacket Config.here .nack sq p ++ tail) (n : Nat) :
    Host.Core.run core (n + 1) s = Host.Core.run core n { s with
      inputs := rest, draw := d, rx := tail, nackPending := true, nackSeq := sq, response := some (.nackSeen sq) } :=
  run_command hin rfl
    (effect_receive_nack_frame (c := Config.here) (s := { s with inputs := rest, draw := d }) hp hread hrx) n

theorem run_receive_data_frame {s : State} {d : Draw} {rest : List Input} {p tail : List Byte}
    (hin : s.inputs = .command ⟨0x30, []⟩ d :: rest) (hread : 14 ≤ d.read) (hwrite : d.write = none)
    (hp : p.length ≤ 8) (hrx : s.rx = encodePacket Config.here .data s.expectedSeq p ++ tail) (n : Nat) :
    Host.Core.run core (n + 1) s =
      Host.Core.run core n (((s.popInput rest).setDraw d).afterData Config.here p tail) :=
  run_command hin rfl (effect_receive_data_frame (s := (s.popInput rest).setDraw d) hp hread hwrite hrx) n

/-! ### In-order streams (R162) -/

/-- The sequence `k` after `e`. -/
def seqFrom (e : Word) (k : Nat) : Word := e + BitVec.ofNat 16 k

/-- The Data frames of `n` payloads, from sequence `e` on. -/
def dataStream (e : Word) (p : Nat → List Byte) (n : Nat) : List Byte :=
  (List.range n).flatMap fun k => encodePacket Config.here .data (seqFrom e k) (p k)

/-- Their delivery records. -/
def recordStream (e : Word) (p : Nat → List Byte) (n : Nat) : List Delivery :=
  (List.range n).map fun k => ⟨slotOf Config.here (seqFrom e k), padded Config.here (p k)⟩

/-- Their Acks. -/
def ackStream (e : Word) (n : Nat) : List Byte :=
  (List.range n).flatMap fun k => encodePacket Config.here .ack (seqFrom e k) []

theorem seqFrom_zero (e : Word) : seqFrom e 0 = e := BitVec.add_zero e

theorem seqFrom_succ (e : Word) (k : Nat) : seqFrom e (k + 1) = seqFrom (e + 1) k := by
  rw [seqFrom, seqFrom, BitVec.ofNat_add, BitVec.add_assoc, BitVec.add_comm (BitVec.ofNat 16 k)]
  rfl

theorem dataStream_succ (e : Word) (p : Nat → List Byte) (n : Nat) :
    dataStream e p (n + 1) =
      encodePacket Config.here .data e (p 0) ++ dataStream (e + 1) (fun k => p (k + 1)) n := by
  simp only [dataStream, List.range_succ_eq_map, List.flatMap_cons, List.flatMap_map, seqFrom_zero, seqFrom_succ,
    Nat.succ_eq_add_one]

theorem recordStream_succ (e : Word) (p : Nat → List Byte) (n : Nat) :
    recordStream e p (n + 1) =
      ⟨slotOf Config.here e, padded Config.here (p 0)⟩ :: recordStream (e + 1) (fun k => p (k + 1)) n := by
  simp only [recordStream, List.range_succ_eq_map, List.map_cons, List.map_map, seqFrom_zero, Function.comp_def,
    seqFrom_succ, Nat.succ_eq_add_one]

theorem ackStream_succ (e : Word) (n : Nat) :
    ackStream e (n + 1) = encodePacket Config.here .ack e [] ++ ackStream (e + 1) n := by
  simp only [ackStream, List.range_succ_eq_map, List.flatMap_cons, List.flatMap_map, seqFrom_zero, seqFrom_succ,
    Nat.succ_eq_add_one]

/-- Settles O39, by induction on the number of frames: each RECEIVE takes one and expects the next. -/
theorem inOrderStreamIsDelivered : Obligations.InOrderStreamIsDelivered := by
  intro s d n p rest tail hread hwrite hp hin hrx
  induction n generalizing s p with
  | zero => exact ⟨s, rfl, (seqFrom_zero _).symm, by simp, by simp, hrx, hin, rfl, rfl, rfl, rfl⟩
  | succ n ih =>
    change s.rx = dataStream s.expectedSeq p (n + 1) ++ tail at hrx
    rw [dataStream_succ, List.append_assoc] at hrx
    obtain ⟨t, hrun, hseq, hdel, htx, hframe⟩ :=
      ih (((s.popInput _).setDraw d).afterData Config.here (p 0)
          (dataStream (s.expectedSeq + 1) (fun k => p (k + 1)) n ++ tail))
        (fun k => p (k + 1)) (fun k hk => hp (k + 1) (by omega)) rfl rfl
    refine ⟨t, (run_receive_data_frame hin hread hwrite (hp 0 (Nat.succ_pos n)) hrx n).trans hrun, ?_, ?_, ?_, hframe⟩
    · exact hseq.trans (seqFrom_succ _ n).symm
    · exact hdel.trans ((List.append_assoc _ _ _).trans (congrArg _ (recordStream_succ _ p n).symm))
    · exact htx.trans ((List.append_assoc _ _ _).trans (congrArg _ (ackStream_succ _ n).symm))

/-! ### Exchanges (W5; R239, R240) -/

/-- Settles O41: TRANSMIT's frame is what the receiver's row takes, and its Ack what the sender's row takes. -/
theorem dataIsDeliveredAndAcknowledged : Obligations.DataIsDeliveredAndAcknowledged := by
  rintro a b _ p hp haw har hbw hbr - - rfl
  have htransmit := (transmitWritesOnePacket .data b.expectedSeq p a).2.1 hp haw
  have hdeliver := effect_receive_data_frame (c := Config.here)
    (s := { b with rx := encodePacket Config.here .data b.expectedSeq p }) hp hbr hbw (List.append_nil _).symm
  have hack := effect_receive_ack_frame (c := Config.here) (p := [])
    (s := { a with
      tx := a.tx ++ encodePacket Config.here .data b.expectedSeq p, response := some .ok,
      rx := encodePacket Config.here .ack b.expectedSeq [] }) (Nat.zero_le _) har (List.append_nil _).symm
  exact ⟨_, _, _, _, _, htransmit, rfl, hdeliver.exec_eq, rfl, rfl, rfl, rfl, hack.exec_eq, rfl⟩

/-- Settles O42: the second row overwrites what the first wrote, and READ_STATUS reads it. -/
theorem latestAckAndNackStand : Obligations.LatestAckAndNackStand := by
  intro s d x y p q rest hread hp hq hin
  refine ⟨fun hrx => ?_, fun hrx => ?_⟩
  · exact ⟨_, (run_receive_nack_frame hin hread hp hrx 2).trans
      ((run_receive_nack_frame rfl hread hq (List.append_nil _).symm 1).trans (run_command rfl rfl .readStatus 0)), rfl⟩
  · exact ⟨_, (run_receive_ack_frame hin hread hp hrx 2).trans
      ((run_receive_ack_frame rfl hread hq (List.append_nil _).symm 1).trans (run_command rfl rfl .readStatus 0)), rfl⟩

end Sys2Proof.Machine

namespace Sys2Proof

/-! ### Words of the spec -/

/-- Settles O1: the decoders run on each word. -/
theorem specWordsDecode : Obligations.SpecWordsDecode := by
  refine ⟨?_, ?_, ?_, ?_, ?_, ?_, ?_, ?_⟩ <;> decide +kernel

end Sys2Proof
end
